-- ==== Sys2Proof/Word.lean ====
section
/-! DEFINITION. The word types of the machine and the plain functions every layer shares. -/

namespace Sys2Proof

/-- One byte: a general register, a byte of data space, a flag register seen whole (10_state.md R41, R48). -/
abbrev Byte := BitVec 8

/-- One word of program space (30_encoding.md R120). -/
abbrev Word := BitVec 16

/-- A Program Counter value: the widest Program Counter has 22 bits (10_state.md R44). -/
abbrev PcWord := BitVec 22

/-- The number of a general register, R0 to R31 (10_state.md R41). -/
abbrev Reg := Fin 32

/-- The number of a bit in a byte, bit 0 the least significant (00_scope.md R9). -/
abbrev Bit := Fin 8

end Sys2Proof
end

