-- ==== Sys2Proof/Machine/Sreg.lean ====
section
/-! DEFINITION. The Status Register: eight flags, and the byte they make (10_state.md R48). -/

namespace Sys2Proof.Machine

/-- The Status Register, one Bool per flag, bit 7 first (10_state.md R48). It has no reserved bit. -/
structure Sreg where
  /-- Global Interrupt Enable, bit 7. -/
  i : Bool
  /-- Transfer bit, bit 6. -/
  t : Bool
  /-- Half Carry, bit 5. -/
  h : Bool
  /-- Sign, bit 4. -/
  s : Bool
  /-- Two's Complement Overflow, bit 3. -/
  v : Bool
  /-- Negative, bit 2. -/
  n : Bool
  /-- Zero, bit 1. -/
  z : Bool
  /-- Carry, bit 0. -/
  c : Bool
  deriving DecidableEq, Repr

/-- The flags a byte written to SREG's address sets (10_state.md R58). -/
def Sreg.ofByte (b : Byte) : Sreg :=
  { i := b.getLsbD 7, t := b.getLsbD 6, h := b.getLsbD 5, s := b.getLsbD 4
    v := b.getLsbD 3, n := b.getLsbD 2, z := b.getLsbD 1, c := b.getLsbD 0 }

/-- The value of one flag at its place in a byte. -/
def flagValue (flag : Bool) (place : Nat) : Nat := if flag then 2 ^ place else 0

/-- The byte read at SREG's address: I T H S V N Z C, bit 7 on the left (10_state.md R48, R58). -/
def Sreg.toByte (f : Sreg) : Byte :=
  BitVec.ofNat 8 (flagValue f.i 7 + flagValue f.t 6 + flagValue f.h 5 + flagValue f.s 4
    + flagValue f.v 3 + flagValue f.n 2 + flagValue f.z 1 + flagValue f.c 0)

/-- `SREG[s]`: the flag with bit number `s` (10_state.md R48). -/
def Sreg.bit (f : Sreg) (s : Bit) : Bool :=
  match s with
  | 0 => f.c
  | 1 => f.z
  | 2 => f.n
  | 3 => f.v
  | 4 => f.s
  | 5 => f.h
  | 6 => f.t
  | 7 => f.i

/-- `SREG[s] <- x`: one flag is written, no other (45_bit_and_bit_test.md R370, R371). -/
def Sreg.withBit (f : Sreg) (s : Bit) (x : Bool) : Sreg :=
  match s with
  | 0 => { f with c := x }
  | 1 => { f with z := x }
  | 2 => { f with n := x }
  | 3 => { f with v := x }
  | 4 => { f with s := x }
  | 5 => { f with h := x }
  | 6 => { f with t := x }
  | 7 => { f with i := x }

end Sys2Proof.Machine
end

