-- ==== Sys2Proof/Machine/Flags.lean ====
section
/-! DEFINITION. The flag computations: each gives the result and the status register after it, from the status register
before it. A flag a computation does not name keeps its value. -/

namespace Sys2Proof.Machine

/-- A carry or borrow as a number. -/
def carryIn (c : Bool) : Byte := if c then 1#8 else 0#8

/-- The sign flag follows N and V: `S = N ^ V`, for the new N and V. -/
def Sreg.withSign (f : Sreg) : Sreg := { f with s := f.n ^^ f.v }

/-- `AddFlags(a, b, cin)` (40_arithmetic_logic.md R160). -/
def addFlags (f : Sreg) (a b : Byte) (cin : Bool) : Byte × Sreg :=
  let r := a + b + carryIn cin
  (r, Sreg.withSign { f with
    h := (a.getLsbD 3 && b.getLsbD 3) || (b.getLsbD 3 && !r.getLsbD 3) || (!r.getLsbD 3 && a.getLsbD 3)
    v := (a.getLsbD 7 && b.getLsbD 7 && !r.getLsbD 7) || (!a.getLsbD 7 && !b.getLsbD 7 && r.getLsbD 7)
    n := r.getLsbD 7
    z := decide (r = 0#8)
    c := (a.getLsbD 7 && b.getLsbD 7) || (b.getLsbD 7 && !r.getLsbD 7) || (!r.getLsbD 7 && a.getLsbD 7) })

/-- `SubFlags(a, b, cin, keepZ)`: with `keepZ` Z can only stay or fall (40_arithmetic_logic.md R161). -/
def subFlags (f : Sreg) (a b : Byte) (cin keepZ : Bool) : Byte × Sreg :=
  let r := a - b - carryIn cin
  (r, Sreg.withSign { f with
    h := (!a.getLsbD 3 && b.getLsbD 3) || (b.getLsbD 3 && r.getLsbD 3) || (r.getLsbD 3 && !a.getLsbD 3)
    v := (a.getLsbD 7 && !b.getLsbD 7 && !r.getLsbD 7) || (!a.getLsbD 7 && b.getLsbD 7 && r.getLsbD 7)
    n := r.getLsbD 7
    z := if keepZ then decide (r = 0#8) && f.z else decide (r = 0#8)
    c := (!a.getLsbD 7 && b.getLsbD 7) || (b.getLsbD 7 && r.getLsbD 7) || (r.getLsbD 7 && !a.getLsbD 7) })

/-- `LogicFlags(r)` (40_arithmetic_logic.md R162). -/
def logicFlags (f : Sreg) (r : Byte) : Sreg :=
  Sreg.withSign { f with v := false, n := r.getLsbD 7, z := decide (r = 0#8) }

/-- `ShiftRightFlags(r, c)`: V is the new N against the new C (45_bit_and_bit_test.md R388). -/
def shiftRightFlags (f : Sreg) (r : Byte) (c : Bool) : Sreg :=
  Sreg.withSign { f with c := c, n := r.getLsbD 7, z := decide (r = 0#8), v := r.getLsbD 7 ^^ c }

/-- The flags of a shift or rotate to the left: H and C are bits 3 and 7 of the old value
(45_bit_and_bit_test.md R360, R362). -/
def shiftLeftFlags (f : Sreg) (v r : Byte) : Sreg :=
  Sreg.withSign { f with
    h := v.getLsbD 3, c := v.getLsbD 7, n := r.getLsbD 7, z := decide (r = 0#8), v := r.getLsbD 7 ^^ v.getLsbD 7 }

/-- The result and flags of ADIW (40_arithmetic_logic.md R165). -/
def addWordFlags (f : Sreg) (p : Word) (K : BitVec 6) : Word × Sreg :=
  let r := p + K.setWidth 16
  (r, Sreg.withSign { f with
    v := !p.getLsbD 15 && r.getLsbD 15
    n := r.getLsbD 15
    z := decide (r = 0#16)
    c := !r.getLsbD 15 && p.getLsbD 15 })

/-- The result and flags of SBIW (40_arithmetic_logic.md R170). -/
def subWordFlags (f : Sreg) (p : Word) (K : BitVec 6) : Word × Sreg :=
  let r := p - K.setWidth 16
  (r, Sreg.withSign { f with
    v := !r.getLsbD 15 && p.getLsbD 15
    n := r.getLsbD 15
    z := decide (r = 0#16)
    c := r.getLsbD 15 && !p.getLsbD 15 })

/-- The flags of COM: V cleared, C set (40_arithmetic_logic.md R176). -/
def comFlags (f : Sreg) (r : Byte) : Sreg :=
  Sreg.withSign { f with v := false, n := r.getLsbD 7, z := decide (r = 0#8), c := true }

/-- The flags of NEG, `a` the old value and `r` the result (40_arithmetic_logic.md R177). -/
def negFlags (f : Sreg) (a r : Byte) : Sreg :=
  Sreg.withSign { f with
    h := r.getLsbD 3 || a.getLsbD 3, v := decide (r = 0x80#8), n := r.getLsbD 7
    z := decide (r = 0#8), c := decide (r ≠ 0#8) }

/-- The flags of INC: C and H stay (40_arithmetic_logic.md R180). -/
def incFlags (f : Sreg) (r : Byte) : Sreg :=
  Sreg.withSign { f with v := decide (r = 0x80#8), n := r.getLsbD 7, z := decide (r = 0#8) }

/-- The flags of DEC: C and H stay (40_arithmetic_logic.md R181). -/
def decFlags (f : Sreg) (r : Byte) : Sreg :=
  Sreg.withSign { f with v := decide (r = 0x7F#8), n := r.getLsbD 7, z := decide (r = 0#8) }

/-- An 8-bit operand as an integer, signed or unsigned (41_multiply_des.md R207). -/
def operandInt (v : Byte) (isSigned : Bool) : Int := if isSigned then v.toInt else (v.toNat : Int)

/-- `Mul`: C is bit 15 of the product before the shift of the fractional forms, Z is of the value written
(41_multiply_des.md R207). -/
def mulFlags (f : Sreg) (a b : Byte) (aSigned bSigned frac : Bool) : Word × Sreg :=
  let p := BitVec.ofInt 16 (operandInt a aSigned * operandInt b bSigned)
  let r := if frac then p <<< 1 else p
  (r, { f with c := p.getLsbD 15, z := decide (r = 0#16) })

end Sys2Proof.Machine
end

