-- ==== Sys2Proof/Machine/Des.lean ====
section
/-! DEFINITION. The cipher that sixteen DES instructions compute (41_multiply_des.md R206): the Data Encryption Standard. The
manual refers to FIPS publication 46 for it and does not reproduce it; its tables stand here from general knowledge (PRESUMED,
unsafe, log 10). What ONE instruction computes is not here: it is the free value `Config.desUnit`. -/

namespace Sys2Proof.Machine

/-! ### The tables. A bit is named by its place from the most significant one, which is 1. -/

/-- The initial permutation of the standard. -/
def desInitial : List Nat :=
  [58, 50, 42, 34, 26, 18, 10, 2, 60, 52, 44, 36, 28, 20, 12, 4, 62, 54, 46, 38, 30, 22, 14, 6, 64, 56, 48,
   40, 32, 24, 16, 8, 57, 49, 41, 33, 25, 17, 9, 1, 59, 51, 43, 35, 27, 19, 11, 3, 61, 53, 45, 37, 29, 21,
   13, 5, 63, 55, 47, 39, 31, 23, 15, 7]

/-- The inverse of the initial permutation. -/
def desFinal : List Nat :=
  [40, 8, 48, 16, 56, 24, 64, 32, 39, 7, 47, 15, 55, 23, 63, 31, 38, 6, 46, 14, 54, 22, 62, 30, 37, 5, 45,
   13, 53, 21, 61, 29, 36, 4, 44, 12, 52, 20, 60, 28, 35, 3, 43, 11, 51, 19, 59, 27, 34, 2, 42, 10, 50, 18,
   58, 26, 33, 1, 41, 9, 49, 17, 57, 25]

/-- The expansion of a half block to 48 bits. -/
def desExpansion : List Nat :=
  [32, 1, 2, 3, 4, 5, 4, 5, 6, 7, 8, 9, 8, 9, 10, 11, 12, 13, 12, 13, 14, 15, 16, 17, 16, 17, 18, 19, 20,
   21, 20, 21, 22, 23, 24, 25, 24, 25, 26, 27, 28, 29, 28, 29, 30, 31, 32, 1]

/-- The permutation after the substitution. -/
def desP : List Nat :=
  [16, 7, 20, 21, 29, 12, 28, 17, 1, 15, 23, 26, 5, 18, 31, 10, 2, 8, 24, 14, 32, 27, 3, 9, 19, 13, 30, 6,
   22, 11, 4, 25]

/-- The 56 bits of the key that take part; the parity bits do not. -/
def desChoice1 : List Nat :=
  [57, 49, 41, 33, 25, 17, 9, 1, 58, 50, 42, 34, 26, 18, 10, 2, 59, 51, 43, 35, 27, 19, 11, 3, 60, 52, 44,
   36, 63, 55, 47, 39, 31, 23, 15, 7, 62, 54, 46, 38, 30, 22, 14, 6, 61, 53, 45, 37, 29, 21, 13, 5, 28, 20,
   12, 4]

/-- The 48 bits of a round key. -/
def desChoice2 : List Nat :=
  [14, 17, 11, 24, 1, 5, 3, 28, 15, 6, 21, 10, 23, 19, 12, 4, 26, 8, 16, 7, 27, 20, 13, 2, 41, 52, 31, 37,
   47, 55, 30, 40, 51, 45, 33, 48, 44, 49, 39, 56, 34, 53, 46, 42, 50, 36, 29, 32]

/-- How far the key halves are rotated before each round. -/
def desShifts : List Nat :=
  [1, 1, 2, 2, 2, 2, 2, 2, 1, 2, 2, 2, 2, 2, 2, 1]

/-- The eight substitution tables, row after row. -/
def desSubstitutions : List (List Nat) :=
  [ [14, 4, 13, 1, 2, 15, 11, 8, 3, 10, 6, 12, 5, 9, 0, 7, 0, 15, 7, 4, 14, 2, 13, 1, 10, 6, 12, 11, 9, 5, 3, 8,
     4, 1, 14, 8, 13, 6, 2, 11, 15, 12, 9, 7, 3, 10, 5, 0, 15, 12, 8, 2, 4, 9, 1, 7, 5, 11, 3, 14, 10, 0, 6, 13],
    [15, 1, 8, 14, 6, 11, 3, 4, 9, 7, 2, 13, 12, 0, 5, 10, 3, 13, 4, 7, 15, 2, 8, 14, 12, 0, 1, 10, 6, 9, 11, 5,
     0, 14, 7, 11, 10, 4, 13, 1, 5, 8, 12, 6, 9, 3, 2, 15, 13, 8, 10, 1, 3, 15, 4, 2, 11, 6, 7, 12, 0, 5, 14, 9],
    [10, 0, 9, 14, 6, 3, 15, 5, 1, 13, 12, 7, 11, 4, 2, 8, 13, 7, 0, 9, 3, 4, 6, 10, 2, 8, 5, 14, 12, 11, 15, 1,
     13, 6, 4, 9, 8, 15, 3, 0, 11, 1, 2, 12, 5, 10, 14, 7, 1, 10, 13, 0, 6, 9, 8, 7, 4, 15, 14, 3, 11, 5, 2, 12],
    [7, 13, 14, 3, 0, 6, 9, 10, 1, 2, 8, 5, 11, 12, 4, 15, 13, 8, 11, 5, 6, 15, 0, 3, 4, 7, 2, 12, 1, 10, 14, 9,
     10, 6, 9, 0, 12, 11, 7, 13, 15, 1, 3, 14, 5, 2, 8, 4, 3, 15, 0, 6, 10, 1, 13, 8, 9, 4, 5, 11, 12, 7, 2, 14],
    [2, 12, 4, 1, 7, 10, 11, 6, 8, 5, 3, 15, 13, 0, 14, 9, 14, 11, 2, 12, 4, 7, 13, 1, 5, 0, 15, 10, 3, 9, 8, 6,
     4, 2, 1, 11, 10, 13, 7, 8, 15, 9, 12, 5, 6, 3, 0, 14, 11, 8, 12, 7, 1, 14, 2, 13, 6, 15, 0, 9, 10, 4, 5, 3],
    [12, 1, 10, 15, 9, 2, 6, 8, 0, 13, 3, 4, 14, 7, 5, 11, 10, 15, 4, 2, 7, 12, 9, 5, 6, 1, 13, 14, 0, 11, 3, 8,
     9, 14, 15, 5, 2, 8, 12, 3, 7, 0, 4, 10, 1, 13, 11, 6, 4, 3, 2, 12, 9, 5, 15, 10, 11, 14, 1, 7, 6, 0, 8, 13],
    [4, 11, 2, 14, 15, 0, 8, 13, 3, 12, 9, 7, 5, 10, 6, 1, 13, 0, 11, 7, 4, 9, 1, 10, 14, 3, 5, 12, 2, 15, 8, 6,
     1, 4, 11, 13, 12, 3, 7, 14, 10, 15, 6, 8, 0, 5, 9, 2, 6, 11, 13, 8, 1, 4, 10, 7, 9, 5, 0, 15, 14, 2, 3, 12],
    [13, 2, 8, 4, 6, 15, 11, 1, 10, 9, 3, 14, 5, 0, 12, 7, 1, 15, 13, 8, 10, 3, 7, 4, 12, 5, 6, 11, 0, 14, 9, 2,
     7, 11, 4, 1, 9, 12, 14, 2, 0, 6, 10, 13, 15, 3, 5, 8, 2, 1, 14, 7, 4, 10, 8, 13, 15, 12, 9, 0, 3, 5, 6, 11] ]

/-! ### The cipher -/

/-- The bits of `x` that a table names, in its order, the first the most significant. -/
def desPermute {n : Nat} (m : Nat) (table : List Nat) (x : BitVec n) : BitVec m :=
  BitVec.ofNat m (table.foldl (fun acc i => 2 * acc + (x.getMsbD (i - 1)).toNat) 0)

/-- The keys of the rounds, from the two halves of the key. -/
def desRoundKeys : List Nat → BitVec 28 → BitVec 28 → List (BitVec 48)
  | [], _, _ => []
  | n :: t, c, d =>
    desPermute 48 desChoice2 (c.rotateLeft n ++ d.rotateLeft n) :: desRoundKeys t (c.rotateLeft n) (d.rotateLeft n)

/-- The sixteen round keys of a key of 64 bits. -/
def desKeys (key : BitVec 64) : List (BitVec 48) :=
  let k := desPermute 56 desChoice1 key
  desRoundKeys desShifts (k.extractLsb' 28 28) (k.extractLsb' 0 28)

/-- Six bits through one substitution table: the outer two choose the row, the inner four the column. -/
def desSubstitute (table : List Nat) (x : BitVec 6) : BitVec 4 :=
  BitVec.ofNat 4 (table.getD (16 * (2 * (x.toNat / 32) + x.toNat % 2) + x.toNat / 2 % 16) 0)

/-- The substitution of 48 bits, the first table taking the most significant six. -/
def desSubstituteAll (x : BitVec 48) : BitVec 32 :=
  let part (i : Nat) := desSubstitute (desSubstitutions.getD i []) (x.extractLsb' (42 - 6 * i) 6)
  part 0 ++ part 1 ++ part 2 ++ part 3 ++ part 4 ++ part 5 ++ part 6 ++ part 7

/-- The function of a half block and a round key that is added to the other half. -/
def desFunction (r : BitVec 32) (k : BitVec 48) : BitVec 32 :=
  desPermute 32 desP (desSubstituteAll (desPermute 48 desExpansion r ^^^ k))

/-- The rounds on the two halves; after the last one they are not exchanged. -/
def desFeistel : List (BitVec 48) → BitVec 32 → BitVec 32 → BitVec 64
  | [], l, r => r ++ l
  | k :: t, l, r => desFeistel t r (l ^^^ desFunction r k)

/-- A block through the rounds of the given keys, between the initial permutation and its inverse. -/
def desCipher (keys : List (BitVec 48)) (block : BitVec 64) : BitVec 64 :=
  let x := desPermute 64 desInitial block
  desPermute 64 desFinal (desFeistel keys (x.extractLsb' 32 32) (x.extractLsb' 0 32))

/-- The DES encryption of a block under a key (41_multiply_des.md R206). -/
def desEncrypt (block key : BitVec 64) : BitVec 64 := desCipher (desKeys key) block

/-- The DES decryption of a block under a key: the round keys in the opposite order (41_multiply_des.md R206). -/
def desDecrypt (block key : BitVec 64) : BitVec 64 := desCipher (desKeys key).reverse block

/-! ### The law of the DES instruction -/

/-- What one DES instruction computes: from data, key, round number and the decrypt flag to data and key. -/
abbrev DesRound := BitVec 64 → BitVec 64 → BitVec 4 → Bool → BitVec 64 × BitVec 64

/-- The first `n` rounds in increasing order, on data and key. -/
def desRounds (round : DesRound) (decrypt : Bool) : Nat → BitVec 64 × BitVec 64 → BitVec 64 × BitVec 64
  | 0, b => b
  | n + 1, b =>
    let b := desRounds round decrypt n b
    round b.1 b.2 (BitVec.ofNat 4 n) decrypt

/-- The one law of a DES round: the sixteen in increasing order leave the encryption of the data under the key, or the
decryption; of the key they leave anything (41_multiply_des.md R206, decision D23). -/
def SixteenRoundLaw (round : DesRound) : Prop :=
  ∀ data key : BitVec 64,
    (desRounds round false 16 (data, key)).1 = desEncrypt data key ∧
    (desRounds round true 16 (data, key)).1 = desDecrypt data key

/-- A DES unit: a round that keeps the law. -/
structure DesUnit where
  round : DesRound
  law : SixteenRoundLaw round

/-- Some DES unit, whose last round does everything: it shows that the law can be kept, and nothing is stated of it. -/
def someDesUnit : DesUnit where
  round data key k decrypt :=
    if k = 15 then (if decrypt then desDecrypt data key else desEncrypt data key, key) else (data, key)
  law _ _ := ⟨rfl, rfl⟩

end Sys2Proof.Machine
end

