-- ==== Sys2Proof/Syntax.lean ====
section
/-! DEFINITION. The instructions: one constructor per row of the opcode table, the names whose words are another
row's included (30_encoding.md R129, R130, R134), and the instruction names that availability is asked of
(05_cores_and_devices.md R21 to R23). -/

namespace Sys2Proof

/-- An instruction with its operands, register numbers as the manual gives them (R16 is 16).
`d` is the register the manual calls Rd, `r` the one it calls Rr, `K` a constant, `k` an address or an offset,
`q` a displacement, `A` an I/O address, `b` a bit number, `s` an SREG bit number (00_scope.md R8). -/
inductive Instr where
  /-- `ADD`, rule R163. -/
  | add (d r : Reg)
  /-- `ADC`, rule R164. -/
  | adc (d r : Reg)
  /-- `ADIW`, rule R165. -/
  | adiw (d : Reg) (K : BitVec 6)
  /-- `SUB`, rule R166. -/
  | sub (d r : Reg)
  /-- `SUBI`, rule R167. -/
  | subi (d : Reg) (K : Byte)
  /-- `SBC`, rule R168. -/
  | sbc (d r : Reg)
  /-- `SBCI`, rule R169. -/
  | sbci (d : Reg) (K : Byte)
  /-- `SBIW`, rule R170. -/
  | sbiw (d : Reg) (K : BitVec 6)
  /-- `AND`, rule R171. -/
  | and (d r : Reg)
  /-- `ANDI`, rule R172. -/
  | andi (d : Reg) (K : Byte)
  /-- `OR`, rule R173. -/
  | or (d r : Reg)
  /-- `ORI`, rule R174. -/
  | ori (d : Reg) (K : Byte)
  /-- `EOR`, rule R175. -/
  | eor (d r : Reg)
  /-- `COM`, rule R176. -/
  | com (d : Reg)
  /-- `NEG`, rule R177. -/
  | neg (d : Reg)
  /-- `SBR`, rule R178, a name of `ORI` words. -/
  | sbr (d : Reg) (K : Byte)
  /-- `CBR`, rule R179, a name of `ANDI` words. -/
  | cbr (d : Reg) (K : Byte)
  /-- `INC`, rule R180. -/
  | inc (d : Reg)
  /-- `DEC`, rule R181. -/
  | dec (d : Reg)
  /-- `TST`, rule R182, a name of `AND` words. -/
  | tst (d : Reg)
  /-- `CLR`, rule R183, a name of `EOR` words. -/
  | clr (d : Reg)
  /-- `SER`, rule R184, a name of `LDI` words. -/
  | ser (d : Reg)
  /-- `MUL`, rule R200. -/
  | mul (d r : Reg)
  /-- `MULS`, rule R201. -/
  | muls (d r : Reg)
  /-- `MULSU`, rule R202. -/
  | mulsu (d r : Reg)
  /-- `FMUL`, rule R203. -/
  | fmul (d r : Reg)
  /-- `FMULS`, rule R204. -/
  | fmuls (d r : Reg)
  /-- `FMULSU`, rule R205. -/
  | fmulsu (d r : Reg)
  /-- `DES`, rule R206. -/
  | des (K : BitVec 4)
  /-- `RJMP`, rule R220. -/
  | rjmp (k : BitVec 12)
  /-- `IJMP`, rule R221. -/
  | ijmp
  /-- `EIJMP`, rule R222. -/
  | eijmp
  /-- `JMP`, rule R223. -/
  | jmp (k : PcWord)
  /-- `RCALL`, rule R225. -/
  | rcall (k : BitVec 12)
  /-- `ICALL`, rule R226. -/
  | icall
  /-- `EICALL`, rule R227. -/
  | eicall
  /-- `CALL`, rule R228. -/
  | call (k : PcWord)
  /-- `RET`, rule R230. -/
  | ret
  /-- `RETI`, rule R231. -/
  | reti
  /-- `CPSE`, rule R233. -/
  | cpse (d r : Reg)
  /-- `CP`, rule R234. -/
  | cp (d r : Reg)
  /-- `CPC`, rule R235. -/
  | cpc (d r : Reg)
  /-- `CPI`, rule R236. -/
  | cpi (d : Reg) (K : Byte)
  /-- `SBRC`, rule R237. -/
  | sbrc (r : Reg) (b : Bit)
  /-- `SBRS`, rule R238. -/
  | sbrs (r : Reg) (b : Bit)
  /-- `SBIC`, rule R239. -/
  | sbic (A : BitVec 5) (b : Bit)
  /-- `SBIS`, rule R240. -/
  | sbis (A : BitVec 5) (b : Bit)
  /-- `BRBS`, rule R242. -/
  | brbs (s : Bit) (k : BitVec 7)
  /-- `BRBC`, rule R243. -/
  | brbc (s : Bit) (k : BitVec 7)
  /-- `BREQ`, rule R244, a name of `BRBS` words. -/
  | breq (k : BitVec 7)
  /-- `BRNE`, rule R245, a name of `BRBC` words. -/
  | brne (k : BitVec 7)
  /-- `BRCS`, rule R246, a name of `BRBS` words. -/
  | brcs (k : BitVec 7)
  /-- `BRCC`, rule R247, a name of `BRBC` words. -/
  | brcc (k : BitVec 7)
  /-- `BRSH`, rule R248, a name of `BRBC` words. -/
  | brsh (k : BitVec 7)
  /-- `BRLO`, rule R249, a name of `BRBS` words. -/
  | brlo (k : BitVec 7)
  /-- `BRMI`, rule R250, a name of `BRBS` words. -/
  | brmi (k : BitVec 7)
  /-- `BRPL`, rule R251, a name of `BRBC` words. -/
  | brpl (k : BitVec 7)
  /-- `BRGE`, rule R252, a name of `BRBC` words. -/
  | brge (k : BitVec 7)
  /-- `BRLT`, rule R253, a name of `BRBS` words. -/
  | brlt (k : BitVec 7)
  /-- `BRHS`, rule R254, a name of `BRBS` words. -/
  | brhs (k : BitVec 7)
  /-- `BRHC`, rule R255, a name of `BRBC` words. -/
  | brhc (k : BitVec 7)
  /-- `BRTS`, rule R256, a name of `BRBS` words. -/
  | brts (k : BitVec 7)
  /-- `BRTC`, rule R257, a name of `BRBC` words. -/
  | brtc (k : BitVec 7)
  /-- `BRVS`, rule R258, a name of `BRBS` words. -/
  | brvs (k : BitVec 7)
  /-- `BRVC`, rule R259, a name of `BRBC` words. -/
  | brvc (k : BitVec 7)
  /-- `BRIE`, rule R260, a name of `BRBS` words. -/
  | brie (k : BitVec 7)
  /-- `BRID`, rule R261, a name of `BRBC` words. -/
  | brid (k : BitVec 7)
  /-- `MOV`, rule R280. -/
  | mov (d r : Reg)
  /-- `MOVW`, rule R281. -/
  | movw (d r : Reg)
  /-- `LDI`, rule R282. -/
  | ldi (d : Reg) (K : Byte)
  /-- `LDS`, rule R283. -/
  | lds (d : Reg) (k : Word)
  /-- `LDS (AVRrc)`, rule R284. -/
  | ldsRc (d : Reg) (k : BitVec 7)
  /-- `LD X`, rule R286. -/
  | ldX (d : Reg)
  /-- `LD X+`, rule R287. -/
  | ldXInc (d : Reg)
  /-- `LD -X`, rule R288. -/
  | ldXDec (d : Reg)
  /-- `LD Y`, rule R289. -/
  | ldY (d : Reg)
  /-- `LD Y+`, rule R290. -/
  | ldYInc (d : Reg)
  /-- `LD -Y`, rule R291. -/
  | ldYDec (d : Reg)
  /-- `LDD Y+q`, rule R292. -/
  | lddY (d : Reg) (q : BitVec 6)
  /-- `LD Z`, rule R293. -/
  | ldZ (d : Reg)
  /-- `LD Z+`, rule R294. -/
  | ldZInc (d : Reg)
  /-- `LD -Z`, rule R295. -/
  | ldZDec (d : Reg)
  /-- `LDD Z+q`, rule R296. -/
  | lddZ (d : Reg) (q : BitVec 6)
  /-- `STS`, rule R298. -/
  | sts (k : Word) (r : Reg)
  /-- `STS (AVRrc)`, rule R299. -/
  | stsRc (k : BitVec 7) (r : Reg)
  /-- `ST X`, rule R300. -/
  | stX (r : Reg)
  /-- `ST X+`, rule R301. -/
  | stXInc (r : Reg)
  /-- `ST -X`, rule R302. -/
  | stXDec (r : Reg)
  /-- `ST Y`, rule R303. -/
  | stY (r : Reg)
  /-- `ST Y+`, rule R304. -/
  | stYInc (r : Reg)
  /-- `ST -Y`, rule R305. -/
  | stYDec (r : Reg)
  /-- `STD Y+q`, rule R306. -/
  | stdY (q : BitVec 6) (r : Reg)
  /-- `ST Z`, rule R307. -/
  | stZ (r : Reg)
  /-- `ST Z+`, rule R308. -/
  | stZInc (r : Reg)
  /-- `ST -Z`, rule R309. -/
  | stZDec (r : Reg)
  /-- `STD Z+q`, rule R310. -/
  | stdZ (q : BitVec 6) (r : Reg)
  /-- `IN`, rule R311. -/
  | in_ (d : Reg) (A : BitVec 6)
  /-- `OUT`, rule R312. -/
  | out (A : BitVec 6) (r : Reg)
  /-- `PUSH`, rule R313. -/
  | push (r : Reg)
  /-- `POP`, rule R314. -/
  | pop (d : Reg)
  /-- `XCH`, rule R315. -/
  | xch (d : Reg)
  /-- `LAS`, rule R316. -/
  | las (d : Reg)
  /-- `LAC`, rule R317. -/
  | lac (d : Reg)
  /-- `LAT`, rule R318. -/
  | lat (d : Reg)
  /-- `LPM`, rule R340. -/
  | lpm
  /-- `LPM Rd,Z`, rule R341. -/
  | lpmZ (d : Reg)
  /-- `LPM Rd,Z+`, rule R342. -/
  | lpmZInc (d : Reg)
  /-- `ELPM`, rule R343. -/
  | elpm
  /-- `ELPM Rd,Z`, rule R344. -/
  | elpmZ (d : Reg)
  /-- `ELPM Rd,Z+`, rule R345. -/
  | elpmZInc (d : Reg)
  /-- `SPM`, rule R348. -/
  | spm
  /-- `SPM Z+`, rule R350. -/
  | spmZInc
  /-- `LSL`, rule R360, a name of `ADD` words. -/
  | lsl (d : Reg)
  /-- `LSR`, rule R361. -/
  | lsr (d : Reg)
  /-- `ROL`, rule R362, a name of `ADC` words. -/
  | rol (d : Reg)
  /-- `ROR`, rule R363. -/
  | ror (d : Reg)
  /-- `ASR`, rule R364. -/
  | asr (d : Reg)
  /-- `SWAP`, rule R365. -/
  | swap (d : Reg)
  /-- `SBI`, rule R366. -/
  | sbi (A : BitVec 5) (b : Bit)
  /-- `CBI`, rule R367. -/
  | cbi (A : BitVec 5) (b : Bit)
  /-- `BST`, rule R368. -/
  | bst (d : Reg) (b : Bit)
  /-- `BLD`, rule R369. -/
  | bld (d : Reg) (b : Bit)
  /-- `BSET`, rule R370. -/
  | bset (s : Bit)
  /-- `BCLR`, rule R371. -/
  | bclr (s : Bit)
  /-- `SEC`, rule R372, a name of `BSET` words. -/
  | sec
  /-- `CLC`, rule R373, a name of `BCLR` words. -/
  | clc
  /-- `SEN`, rule R374, a name of `BSET` words. -/
  | sen
  /-- `CLN`, rule R375, a name of `BCLR` words. -/
  | cln
  /-- `SEZ`, rule R376, a name of `BSET` words. -/
  | sez
  /-- `CLZ`, rule R377, a name of `BCLR` words. -/
  | clz
  /-- `SEI`, rule R378, a name of `BSET` words. -/
  | sei
  /-- `CLI`, rule R379, a name of `BCLR` words. -/
  | cli
  /-- `SES`, rule R380, a name of `BSET` words. -/
  | ses
  /-- `CLS`, rule R381, a name of `BCLR` words. -/
  | cls
  /-- `SEV`, rule R382, a name of `BSET` words. -/
  | sev
  /-- `CLV`, rule R383, a name of `BCLR` words. -/
  | clv
  /-- `SET`, rule R384, a name of `BSET` words. -/
  | set
  /-- `CLT`, rule R385, a name of `BCLR` words. -/
  | clt
  /-- `SEH`, rule R386, a name of `BSET` words. -/
  | seh
  /-- `CLH`, rule R387, a name of `BCLR` words. -/
  | clh
  /-- `BREAK`, rule R410. -/
  | break_
  /-- `NOP`, rule R411. -/
  | nop
  /-- `SLEEP`, rule R412. -/
  | sleep
  /-- `WDR`, rule R413. -/
  | wdr
  deriving DecidableEq, Repr

/-- The 103 instruction names that have words of their own: what Table 7-1 and a device's list of missing
instructions speak of (05_cores_and_devices.md R21 to R26). -/
inductive Mnemonic where
  | add | adc | adiw | sub | subi | sbc | sbci | sbiw | and | andi
  | or | ori | eor | com | neg | inc | dec | mul | muls | mulsu
  | fmul | fmuls | fmulsu | des | rjmp | ijmp | eijmp | jmp | rcall | icall
  | eicall | call | ret | reti | cpse | cp | cpc | cpi | sbrc | sbrs
  | sbic | sbis | brbs | brbc | mov | movw | ldi | lds | ldsRc | ldX
  | ldXInc | ldXDec | ldY | ldYInc | ldYDec | lddY | ldZ | ldZInc | ldZDec | lddZ
  | sts | stsRc | stX | stXInc | stXDec | stY | stYInc | stYDec | stdY | stZ
  | stZInc | stZDec | stdZ | in_ | out | push | pop | xch | las | lac
  | lat | lpm | lpmZ | lpmZInc | elpm | elpmZ | elpmZInc | spm | spmZInc | lsr
  | ror | asr | swap | sbi | cbi | bst | bld | bset | bclr | break_
  | nop | sleep | wdr
  deriving DecidableEq, Repr

/-- The name an instruction is asked for availability under: its own, or that of the row whose words it has. -/
def Instr.mnemonic : Instr → Mnemonic
  | .add _ _ => .add
  | .adc _ _ => .adc
  | .adiw _ _ => .adiw
  | .sub _ _ => .sub
  | .subi _ _ => .subi
  | .sbc _ _ => .sbc
  | .sbci _ _ => .sbci
  | .sbiw _ _ => .sbiw
  | .and _ _ => .and
  | .andi _ _ => .andi
  | .or _ _ => .or
  | .ori _ _ => .ori
  | .eor _ _ => .eor
  | .com _ => .com
  | .neg _ => .neg
  | .sbr _ _ => .ori
  | .cbr _ _ => .andi
  | .inc _ => .inc
  | .dec _ => .dec
  | .tst _ => .and
  | .clr _ => .eor
  | .ser _ => .ldi
  | .mul _ _ => .mul
  | .muls _ _ => .muls
  | .mulsu _ _ => .mulsu
  | .fmul _ _ => .fmul
  | .fmuls _ _ => .fmuls
  | .fmulsu _ _ => .fmulsu
  | .des _ => .des
  | .rjmp _ => .rjmp
  | .ijmp => .ijmp
  | .eijmp => .eijmp
  | .jmp _ => .jmp
  | .rcall _ => .rcall
  | .icall => .icall
  | .eicall => .eicall
  | .call _ => .call
  | .ret => .ret
  | .reti => .reti
  | .cpse _ _ => .cpse
  | .cp _ _ => .cp
  | .cpc _ _ => .cpc
  | .cpi _ _ => .cpi
  | .sbrc _ _ => .sbrc
  | .sbrs _ _ => .sbrs
  | .sbic _ _ => .sbic
  | .sbis _ _ => .sbis
  | .brbs _ _ => .brbs
  | .brbc _ _ => .brbc
  | .breq _ => .brbs
  | .brne _ => .brbc
  | .brcs _ => .brbs
  | .brcc _ => .brbc
  | .brsh _ => .brbc
  | .brlo _ => .brbs
  | .brmi _ => .brbs
  | .brpl _ => .brbc
  | .brge _ => .brbc
  | .brlt _ => .brbs
  | .brhs _ => .brbs
  | .brhc _ => .brbc
  | .brts _ => .brbs
  | .brtc _ => .brbc
  | .brvs _ => .brbs
  | .brvc _ => .brbc
  | .brie _ => .brbs
  | .brid _ => .brbc
  | .mov _ _ => .mov
  | .movw _ _ => .movw
  | .ldi _ _ => .ldi
  | .lds _ _ => .lds
  | .ldsRc _ _ => .ldsRc
  | .ldX _ => .ldX
  | .ldXInc _ => .ldXInc
  | .ldXDec _ => .ldXDec
  | .ldY _ => .ldY
  | .ldYInc _ => .ldYInc
  | .ldYDec _ => .ldYDec
  | .lddY _ _ => .lddY
  | .ldZ _ => .ldZ
  | .ldZInc _ => .ldZInc
  | .ldZDec _ => .ldZDec
  | .lddZ _ _ => .lddZ
  | .sts _ _ => .sts
  | .stsRc _ _ => .stsRc
  | .stX _ => .stX
  | .stXInc _ => .stXInc
  | .stXDec _ => .stXDec
  | .stY _ => .stY
  | .stYInc _ => .stYInc
  | .stYDec _ => .stYDec
  | .stdY _ _ => .stdY
  | .stZ _ => .stZ
  | .stZInc _ => .stZInc
  | .stZDec _ => .stZDec
  | .stdZ _ _ => .stdZ
  | .in_ _ _ => .in_
  | .out _ _ => .out
  | .push _ => .push
  | .pop _ => .pop
  | .xch _ => .xch
  | .las _ => .las
  | .lac _ => .lac
  | .lat _ => .lat
  | .lpm => .lpm
  | .lpmZ _ => .lpmZ
  | .lpmZInc _ => .lpmZInc
  | .elpm => .elpm
  | .elpmZ _ => .elpmZ
  | .elpmZInc _ => .elpmZInc
  | .spm => .spm
  | .spmZInc => .spmZInc
  | .lsl _ => .add
  | .lsr _ => .lsr
  | .rol _ => .adc
  | .ror _ => .ror
  | .asr _ => .asr
  | .swap _ => .swap
  | .sbi _ _ => .sbi
  | .cbi _ _ => .cbi
  | .bst _ _ => .bst
  | .bld _ _ => .bld
  | .bset _ => .bset
  | .bclr _ => .bclr
  | .sec => .bset
  | .clc => .bclr
  | .sen => .bset
  | .cln => .bclr
  | .sez => .bset
  | .clz => .bclr
  | .sei => .bset
  | .cli => .bclr
  | .ses => .bset
  | .cls => .bclr
  | .sev => .bset
  | .clv => .bclr
  | .set => .bset
  | .clt => .bclr
  | .seh => .bset
  | .clh => .bclr
  | .break_ => .break_
  | .nop => .nop
  | .sleep => .sleep
  | .wdr => .wdr

end Sys2Proof
end

