-- ==== Sys2Proof/WellFormed.lean ====
section
/-! DEFINITION. Which operands an instruction's encoding can name (30_encoding.md R122 to R126), and on which CPU
version an instruction has words of its own (R131). -/

namespace Sys2Proof

/-- The six CPU versions (05_cores_and_devices.md R20): AVR, AVRe, AVRe+, AVRxm, AVRxt, AVRrc. -/
inductive Cpu where
  | avr | avrE | avrEPlus | avrXm | avrXt | avrRc
  deriving DecidableEq, Repr

/-- The registers of the four-bit fields: R16 to R31 (30_encoding.md R123). -/
def Reg.isUpper (d : Reg) : Bool := decide (16 ≤ d.val)

/-- The registers of the three-bit fields: R16 to R23 (30_encoding.md R124). -/
def Reg.isMulUpper (d : Reg) : Bool := decide (16 ≤ d.val) && decide (d.val ≤ 23)

/-- The low registers of the upper four pairs: R24, R26, R28, R30 (30_encoding.md R125). -/
def Reg.isWordPair (d : Reg) : Bool := decide (24 ≤ d.val) && decide (d.val % 2 = 0)

/-- The low registers of the sixteen pairs: R0, R2, to R30 (30_encoding.md R125). -/
def Reg.isPair (d : Reg) : Bool := decide (d.val % 2 = 0)

/-- The operands lie in the ranges the manual's "Operands" line gives (30_encoding.md R122 to R126); every range that
the operand's type already is needs no check. -/
def Instr.wf : Instr → Bool
  | .add _ _ => true
  | .adc _ _ => true
  | .adiw d _ => d.isWordPair
  | .sub _ _ => true
  | .subi d _ => d.isUpper
  | .sbc _ _ => true
  | .sbci d _ => d.isUpper
  | .sbiw d _ => d.isWordPair
  | .and _ _ => true
  | .andi d _ => d.isUpper
  | .or _ _ => true
  | .ori d _ => d.isUpper
  | .eor _ _ => true
  | .com _ => true
  | .neg _ => true
  | .sbr d _ => d.isUpper
  | .cbr d _ => d.isUpper
  | .inc _ => true
  | .dec _ => true
  | .tst _ => true
  | .clr _ => true
  | .ser d => d.isUpper
  | .mul _ _ => true
  | .muls d r => d.isUpper && r.isUpper
  | .mulsu d r => d.isMulUpper && r.isMulUpper
  | .fmul d r => d.isMulUpper && r.isMulUpper
  | .fmuls d r => d.isMulUpper && r.isMulUpper
  | .fmulsu d r => d.isMulUpper && r.isMulUpper
  | .des _ => true
  | .rjmp _ => true
  | .ijmp => true
  | .eijmp => true
  | .jmp _ => true
  | .rcall _ => true
  | .icall => true
  | .eicall => true
  | .call _ => true
  | .ret => true
  | .reti => true
  | .cpse _ _ => true
  | .cp _ _ => true
  | .cpc _ _ => true
  | .cpi d _ => d.isUpper
  | .sbrc _ _ => true
  | .sbrs _ _ => true
  | .sbic _ _ => true
  | .sbis _ _ => true
  | .brbs _ _ => true
  | .brbc _ _ => true
  | .breq _ => true
  | .brne _ => true
  | .brcs _ => true
  | .brcc _ => true
  | .brsh _ => true
  | .brlo _ => true
  | .brmi _ => true
  | .brpl _ => true
  | .brge _ => true
  | .brlt _ => true
  | .brhs _ => true
  | .brhc _ => true
  | .brts _ => true
  | .brtc _ => true
  | .brvs _ => true
  | .brvc _ => true
  | .brie _ => true
  | .brid _ => true
  | .mov _ _ => true
  | .movw d r => d.isPair && r.isPair
  | .ldi d _ => d.isUpper
  | .lds _ _ => true
  | .ldsRc d _ => d.isUpper
  | .ldX _ => true
  | .ldXInc _ => true
  | .ldXDec _ => true
  | .ldY _ => true
  | .ldYInc _ => true
  | .ldYDec _ => true
  | .lddY _ _ => true
  | .ldZ _ => true
  | .ldZInc _ => true
  | .ldZDec _ => true
  | .lddZ _ _ => true
  | .sts _ _ => true
  | .stsRc _ r => r.isUpper
  | .stX _ => true
  | .stXInc _ => true
  | .stXDec _ => true
  | .stY _ => true
  | .stYInc _ => true
  | .stYDec _ => true
  | .stdY _ _ => true
  | .stZ _ => true
  | .stZInc _ => true
  | .stZDec _ => true
  | .stdZ _ _ => true
  | .in_ _ _ => true
  | .out _ _ => true
  | .push _ => true
  | .pop _ => true
  | .xch _ => true
  | .las _ => true
  | .lac _ => true
  | .lat _ => true
  | .lpm => true
  | .lpmZ _ => true
  | .lpmZInc _ => true
  | .elpm => true
  | .elpmZ _ => true
  | .elpmZInc _ => true
  | .spm => true
  | .spmZInc => true
  | .lsl _ => true
  | .lsr _ => true
  | .rol _ => true
  | .ror _ => true
  | .asr _ => true
  | .swap _ => true
  | .sbi _ _ => true
  | .cbi _ _ => true
  | .bst _ _ => true
  | .bld _ _ => true
  | .bset _ => true
  | .bclr _ => true
  | .sec => true
  | .clc => true
  | .sen => true
  | .cln => true
  | .sez => true
  | .clz => true
  | .sei => true
  | .cli => true
  | .ses => true
  | .cls => true
  | .sev => true
  | .clv => true
  | .set => true
  | .clt => true
  | .seh => true
  | .clh => true
  | .break_ => true
  | .nop => true
  | .sleep => true
  | .wdr => true

/-- The CPU versions on which an instruction's words decode to it: the one-word LDS and STS of AVRrc overlay LDD and
STD with a displacement of 32 or more (30_encoding.md R131). -/
def Instr.encodableOn (cpu : Cpu) : Instr → Bool
  | .add _ _ => true
  | .adc _ _ => true
  | .adiw _ _ => true
  | .sub _ _ => true
  | .subi _ _ => true
  | .sbc _ _ => true
  | .sbci _ _ => true
  | .sbiw _ _ => true
  | .and _ _ => true
  | .andi _ _ => true
  | .or _ _ => true
  | .ori _ _ => true
  | .eor _ _ => true
  | .com _ => true
  | .neg _ => true
  | .sbr _ _ => true
  | .cbr _ _ => true
  | .inc _ => true
  | .dec _ => true
  | .tst _ => true
  | .clr _ => true
  | .ser _ => true
  | .mul _ _ => true
  | .muls _ _ => true
  | .mulsu _ _ => true
  | .fmul _ _ => true
  | .fmuls _ _ => true
  | .fmulsu _ _ => true
  | .des _ => true
  | .rjmp _ => true
  | .ijmp => true
  | .eijmp => true
  | .jmp _ => true
  | .rcall _ => true
  | .icall => true
  | .eicall => true
  | .call _ => true
  | .ret => true
  | .reti => true
  | .cpse _ _ => true
  | .cp _ _ => true
  | .cpc _ _ => true
  | .cpi _ _ => true
  | .sbrc _ _ => true
  | .sbrs _ _ => true
  | .sbic _ _ => true
  | .sbis _ _ => true
  | .brbs _ _ => true
  | .brbc _ _ => true
  | .breq _ => true
  | .brne _ => true
  | .brcs _ => true
  | .brcc _ => true
  | .brsh _ => true
  | .brlo _ => true
  | .brmi _ => true
  | .brpl _ => true
  | .brge _ => true
  | .brlt _ => true
  | .brhs _ => true
  | .brhc _ => true
  | .brts _ => true
  | .brtc _ => true
  | .brvs _ => true
  | .brvc _ => true
  | .brie _ => true
  | .brid _ => true
  | .mov _ _ => true
  | .movw _ _ => true
  | .ldi _ _ => true
  | .lds _ _ => true
  | .ldsRc _ _ => decide (cpu = .avrRc)
  | .ldX _ => true
  | .ldXInc _ => true
  | .ldXDec _ => true
  | .ldY _ => true
  | .ldYInc _ => true
  | .ldYDec _ => true
  | .lddY _ q => decide (cpu ≠ .avrRc) || decide (q.toNat < 32)
  | .ldZ _ => true
  | .ldZInc _ => true
  | .ldZDec _ => true
  | .lddZ _ q => decide (cpu ≠ .avrRc) || decide (q.toNat < 32)
  | .sts _ _ => true
  | .stsRc _ _ => decide (cpu = .avrRc)
  | .stX _ => true
  | .stXInc _ => true
  | .stXDec _ => true
  | .stY _ => true
  | .stYInc _ => true
  | .stYDec _ => true
  | .stdY q _ => decide (cpu ≠ .avrRc) || decide (q.toNat < 32)
  | .stZ _ => true
  | .stZInc _ => true
  | .stZDec _ => true
  | .stdZ q _ => decide (cpu ≠ .avrRc) || decide (q.toNat < 32)
  | .in_ _ _ => true
  | .out _ _ => true
  | .push _ => true
  | .pop _ => true
  | .xch _ => true
  | .las _ => true
  | .lac _ => true
  | .lat _ => true
  | .lpm => true
  | .lpmZ _ => true
  | .lpmZInc _ => true
  | .elpm => true
  | .elpmZ _ => true
  | .elpmZInc _ => true
  | .spm => true
  | .spmZInc => true
  | .lsl _ => true
  | .lsr _ => true
  | .rol _ => true
  | .ror _ => true
  | .asr _ => true
  | .swap _ => true
  | .sbi _ _ => true
  | .cbi _ _ => true
  | .bst _ _ => true
  | .bld _ _ => true
  | .bset _ => true
  | .bclr _ => true
  | .sec => true
  | .clc => true
  | .sen => true
  | .cln => true
  | .sez => true
  | .clz => true
  | .sei => true
  | .cli => true
  | .ses => true
  | .cls => true
  | .sev => true
  | .clv => true
  | .set => true
  | .clt => true
  | .seh => true
  | .clh => true
  | .break_ => true
  | .nop => true
  | .sleep => true
  | .wdr => true

end Sys2Proof
end

