-- ==== Sys2Proof/Config.lean ====
section
/-! DEFINITION. What the CPU version, the device and the platform fix: the configuration record of 00_scope.md R6 as
plain data, and the free values, constants with no body. -/

namespace Sys2Proof

/-- What a run of data-space addresses is (20_memory.md R84); a region absent from the map is `Unmapped`.
`regs n`, `io a` and `flash b` say what the run's first address is, the next address being the next register,
I/O location or program byte. -/
inductive RegionKind where
  | regs (base : Nat)
  | io (base : Nat)
  | sram
  | flash (base : Nat)
  | other
  deriving DecidableEq, Repr

/-- One run of `DS_MAP`: the addresses `lo` to `hi`, both included (20_memory.md R84). -/
structure RegionRun where
  lo : Nat
  hi : Nat
  kind : RegionKind
  deriving DecidableEq, Repr

/-- What stands at one data-space address (20_memory.md R84). -/
inductive Region where
  | reg (n : Reg)
  | io (a : Nat)
  | sram
  | flash (b : Nat)
  | other
  | unmapped
  deriving DecidableEq, Repr

/-- The space of an access that has nothing behind it (60_exceptions.md R420), or of a platform access
(20_memory.md R95). -/
inductive Space where
  | data | io | program
  deriving DecidableEq, Repr

/-- The configuration record (00_scope.md R6), fixed for a run. -/
structure Config where
  /-- `CORE` (05_cores_and_devices.md R20). -/
  core : Cpu
  /-- `MISSING`: instructions of `CORE` that the device does not have (05_cores_and_devices.md R23). -/
  missing : List Mnemonic
  /-- `NREGS`: 16 on AVRrc, 32 otherwise (10_state.md R42). -/
  nregs : Nat
  /-- `PC_BITS`: 1 to 22 (10_state.md R44). -/
  pcBits : Nat
  /-- `FLASHEND`: the highest word address of program space (20_memory.md R96). -/
  flashEnd : Nat
  /-- `RAMEND`: the highest address of the data memory (20_memory.md R90). -/
  ramEnd : Nat
  /-- `DS_BITS`: 8, 16 or 24 (00_scope.md R6). -/
  dsBits : Nat
  /-- `SP_BITS`: 1 to 16 (10_state.md R50). -/
  spBits : Nat
  /-- Presence of the extension registers (10_state.md R52). -/
  hasRampX : Bool
  hasRampY : Bool
  hasRampZ : Bool
  hasRampD : Bool
  hasEind : Bool
  /-- `DS_MAP` (20_memory.md R84). -/
  dsMap : List RegionRun
  /-- The I/O addresses of the CPU registers, or their absence (10_state.md R60). -/
  ioSreg : Option Nat
  ioSpl : Option Nat
  ioSph : Option Nat
  ioRampX : Option Nat
  ioRampY : Option Nat
  ioRampZ : Option Nat
  ioRampD : Option Nat
  ioEind : Option Nat
  /-- `OCD_ENABLED`: decides BREAK (46_mcu_control.md R410). -/
  ocdEnabled : Bool
  /-- Addresses the platform declares absent (20_memory.md R95). -/
  platformAbsent : List (Space × Nat)
  /-- The reset values (70_reset_and_hazards.md R450). -/
  resetPc : Nat
  resetSreg : Byte
  resetSp : Nat
  resetRampX : Byte
  resetRampY : Byte
  resetRampZ : Byte
  resetRampD : Byte
  resetEind : Byte
  deriving DecidableEq, Repr

/-- Free value: the byte the platform answers its `n`-th undetermined read with, any byte whatever
(20_memory.md R95; DESIGN CHOICE, safe, log 8). -/
opaque Config.platformByte : Nat → Byte

/-- Free value: what the interrupt controller answers when it is asked and no answer was given, any answer whatever: `None`,
or a vector (60_exceptions.md R423, 70_reset_and_hazards.md R455; DESIGN CHOICE, safe, log 9). -/
opaque Config.irqAnswer : Nat → Option Nat

/-- Free value: the DES unit of the hardware, any whose rounds keep the law of sixteen rounds (41_multiply_des.md R206,
decision D23; log 10). The argument only shows Lean that there is one. -/
opaque Config.desUnit (anyUnit : Inhabited Machine.DesUnit) : Machine.DesUnit

/-- `DES_ROUND`: one DES round as the hardware computes it (41_multiply_des.md R206, 00_scope.md R6; log 10). -/
def Config.desRound : Machine.DesRound := (Config.desUnit ⟨Machine.someDesUnit⟩).round

end Sys2Proof
end

