-- ==== Sys2Proof/Machine/Layouts.lean ====
section
/-! DEFINITION. The layouts of data space usual on AVR devices, as ready-made values of `DS_MAP` (20_memory.md R85, which gives
them from general knowledge). What R85 leaves to the device is a parameter. -/

namespace Sys2Proof.Machine

/-- The addresses `lo` to `hi`, as no run where there are none. -/
def runOf (lo hi : Nat) (kind : RegionKind) : List RegionRun :=
  if lo ≤ hi then [{ lo := lo, hi := hi, kind := kind }] else []

/-- Program memory from the data address `base` on (20_memory.md R85, R89). The spec states no end for it: the model ends it at
the last byte of the word `flashEnd`, or at data address 0xFFFF where that comes first (DESIGN CHOICE, safe, log 40). -/
def mappedFlash (base flashEnd : Nat) : List RegionRun :=
  runOf base (min (base + 2 * flashEnd + 1) 0xFFFF) (.flash 0)

/-- Layout (a), of AVR, AVRe and AVRe+: the registers, I/O location `a` at data address `a + 0x20`, and SRAM from the address
after `ioEnd` to `ramEnd`; `ioEnd` is 0x5F, or 0xFF or 0x1FF with extended I/O (20_memory.md R85). -/
def layoutClassic (ioEnd ramEnd : Nat) : List RegionRun :=
  runOf 0x00 0x1F (.regs 0) ++ runOf 0x20 ioEnd (.io 0) ++ runOf (ioEnd + 1) ramEnd .sram

/-- Layout (b), of AVRxm: I/O location `a` at data address `a` up to 0x0FFF, EEPROM from 0x1000 to `eepromEnd` where it is mapped
(an end below 0x1000 says that it is not), SRAM from 0x2000 to `ramEnd`, external memory above it to `externalEnd` where there
is some (20_memory.md R85). -/
def layoutXmega (eepromEnd ramEnd externalEnd : Nat) : List RegionRun :=
  runOf 0x0000 0x0FFF (.io 0) ++ runOf 0x1000 eepromEnd .other ++ runOf 0x2000 ramEnd .sram ++
    runOf (ramEnd + 1) externalEnd .other

/-- Layout (c), of AVRxt: I/O location `a` at data address `a` up to `ioEnd`, EEPROM, fuses and the like from `nvmStart` to
`nvmEnd`, SRAM from `ramStart` to `ramEnd`, program memory from `flashBase` on, which is 0x4000 or 0x8000 (20_memory.md R85). -/
def layoutXt (ioEnd nvmStart nvmEnd ramStart ramEnd flashBase flashEnd : Nat) : List RegionRun :=
  runOf 0x0000 ioEnd (.io 0) ++ runOf nvmStart nvmEnd .other ++ runOf ramStart ramEnd .sram ++
    mappedFlash flashBase flashEnd

/-- Layout (d), of AVRrc: I/O locations 0 to 63 at their own addresses, SRAM from 0x40 to `ramEnd`, the lock, configuration and
calibration bytes from 0x3F00, program memory from 0x4000 (20_memory.md R85). That those bytes end at 0x3FFF is the model's
choice (DESIGN CHOICE, safe, log 40). -/
def layoutRc (ramEnd flashEnd : Nat) : List RegionRun :=
  runOf 0x00 0x3F (.io 0) ++ runOf 0x40 ramEnd .sram ++ runOf 0x3F00 0x3FFF .other ++ mappedFlash 0x4000 flashEnd

end Sys2Proof.Machine
end

