-- ==== Sys2Proof/Machine/Device.lean ====
section
/-! DEFINITION. The device: the CPU version and device tables, the data map, the test of the configuration record, and
the default device of the reset state. -/

namespace Sys2Proof.Machine

/-- Table 7-1: which CPU version has which instruction; a name the table does not list is on every version
(05_cores_and_devices.md R21, R22). The two encodings of LDS and STS follow R22 (a). -/
def onCore (m : Mnemonic) (c : Cpu) : Bool :=
  match m with
  | .adiw | .sbiw | .lddY | .lddZ | .stdY | .stdZ | .lpm | .lds | .sts => decide (c ≠ .avrRc)
  | .break_ => decide (c ≠ .avr)
  | .call | .jmp | .movw | .lpmZ | .lpmZInc | .spm => decide (c ≠ .avr ∧ c ≠ .avrRc)
  | .eicall | .eijmp | .elpm | .elpmZ | .elpmZInc | .mul | .muls | .mulsu | .fmul | .fmuls | .fmulsu =>
    decide (c = .avrEPlus ∨ c = .avrXm ∨ c = .avrXt)
  | .des | .lac | .las | .lat | .xch => decide (c = .avrXm)
  | .spmZInc => decide (c = .avrXm ∨ c = .avrXt)
  | .ldsRc | .stsRc => decide (c = .avrRc)
  | _ => true

/-- The availability test: the CPU version has the instruction and the device does not miss it
(05_cores_and_devices.md R23). -/
def available (cfg : Config) (m : Mnemonic) : Bool :=
  onCore m cfg.core && !(cfg.missing.contains m)

/-- The register `base + (a - lo)` of a run of registers, nothing past R31. -/
def regionOfReg (n : Nat) : Region :=
  if h : n < 32 then .reg ⟨n, h⟩ else .unmapped

/-- The region of address `a` in a run that holds it (20_memory.md R84). -/
def regionInRun (r : RegionRun) (a : Nat) : Region :=
  match r.kind with
  | .regs base => regionOfReg (base + (a - r.lo))
  | .io base => .io (base + (a - r.lo))
  | .sram => .sram
  | .flash base => .flash (base + (a - r.lo))
  | .other => .other

/-- The region of an address in a list of runs; an address in no run is `Unmapped` (20_memory.md R84). -/
def regionAt : List RegionRun → Nat → Region
  | [], _ => .unmapped
  | r :: t, a => if r.lo ≤ a ∧ a ≤ r.hi then regionInRun r a else regionAt t a

/-- `DS_MAP`, total on addresses; an address of more than `DS_BITS` bits has nothing behind it
(20_memory.md R84, and the first line of R86 and R87). -/
def dsMap (cfg : Config) (a : Nat) : Region :=
  if a < 2 ^ cfg.dsBits then regionAt cfg.dsMap a else .unmapped

/-- The configured I/O addresses. -/
def ioAddresses (cfg : Config) : List Nat :=
  [cfg.ioSreg, cfg.ioSpl, cfg.ioSph, cfg.ioRampX, cfg.ioRampY, cfg.ioRampZ, cfg.ioRampD, cfg.ioEind].filterMap id

/-- Two runs share no address. -/
def runsApart (x y : RegionRun) : Bool := decide (x.hi < y.lo) || decide (y.hi < x.lo)

/-- Two runs name no register and no I/O location twice: `DS_MAP` is injective on those (20_memory.md R84). -/
def runTargetsApart (x y : RegionRun) : Bool :=
  match x.kind, y.kind with
  | .regs a, .regs b | .io a, .io b =>
    decide (a + (x.hi - x.lo) < b) || decide (b + (y.hi - y.lo) < a)
  | _, _ => true

/-- One run by itself is sound: not upside down, registers up to R31 only, SRAM not above `RAMEND` (20_memory.md R90). -/
def runSound (cfg : Config) (x : RegionRun) : Bool :=
  decide (x.lo ≤ x.hi) &&
    match x.kind with
    | .regs base => decide (base + (x.hi - x.lo) < 32)
    | .sram => decide (x.hi ≤ cfg.ramEnd)
    | _ => true

/-- The data map is a function, injective on registers and I/O locations (20_memory.md R84). -/
def dsMapAccepted (cfg : Config) : Bool :=
  cfg.dsMap.all (runSound cfg) &&
    decide (cfg.dsMap.Pairwise fun x y => (runsApart x y && runTargetsApart x y) = true)

/-- The configurations the rules refuse: EIJMP or EICALL without EIND or with a Program Counter of at most 16 bits, 8-bit
data addresses together with a RAMP register, a register count that does not match the CPU version (60_exceptions.md R420,
42_change_of_flow.md R222 and R227, 43_data_transfer.md R285; EIJMP with a narrow Program Counter is in the list of refused
configurations of 92_eei_decisions.md, log 16). -/
def notRefused (cfg : Config) : Bool :=
  (!(available cfg .eijmp || available cfg .eicall) || (cfg.hasEind && decide (16 < cfg.pcBits))) &&
  (decide (cfg.dsBits ≠ 8) || !(cfg.hasRampX || cfg.hasRampY || cfg.hasRampZ || cfg.hasRampD)) &&
  decide (cfg.nregs = if cfg.core = .avrRc then 16 else 32)

/-- The ranges of the parameters' types (00_scope.md R6, 10_state.md R60, 70_reset_and_hazards.md R450). -/
def inRange (cfg : Config) : Bool :=
  decide (1 ≤ cfg.pcBits) && decide (cfg.pcBits ≤ 22) &&
  decide (cfg.flashEnd < 2 ^ cfg.pcBits) && decide (cfg.resetPc ≤ cfg.flashEnd) &&
  decide (1 ≤ cfg.spBits) && decide (cfg.spBits ≤ 16) && decide (cfg.resetSp < 2 ^ cfg.spBits) &&
  (decide (cfg.dsBits = 8) || decide (cfg.dsBits = 16) || decide (cfg.dsBits = 24)) &&
  (ioAddresses cfg).all (fun a => decide (a < 64)) &&
  decide (ioAddresses cfg).Nodup

/-- The configuration record is one the model starts with (60_exceptions.md R420, 70_reset_and_hazards.md R455). -/
def accepted (cfg : Config) : Bool :=
  notRefused cfg && inRange cfg && dsMapAccepted cfg

/-- The default device of the reset state (DESIGN CHOICE, unsafe, log 2): CPU version AVRxm, which has every instruction
but the one-word LDS and STS of AVRrc, nothing missing, every extension register, the widest Program Counter; its data
map is layout (b) of 20_memory.md R85, its I/O addresses those of 10_state.md R60 and its reset values the usual ones of
70_reset_and_hazards.md R450 (PRESUMED, unsafe, log 3). -/
def defaultDevice : Config :=
  { core := .avrXm
    missing := []
    nregs := 32
    pcBits := 22
    flashEnd := 0x3FFFFF
    ramEnd := 0x3FFF
    dsBits := 24
    spBits := 16
    hasRampX := true
    hasRampY := true
    hasRampZ := true
    hasRampD := true
    hasEind := true
    dsMap := layoutXmega 0x1FFF 0x3FFF 0xFFFFFF
    ioSreg := some 0x3F
    ioSpl := some 0x3D
    ioSph := some 0x3E
    ioRampX := some 0x39
    ioRampY := some 0x3A
    ioRampZ := some 0x3B
    ioRampD := some 0x38
    ioEind := some 0x3C
    ocdEnabled := true
    platformAbsent := []
    resetPc := 0
    resetSreg := 0x00
    resetSp := 0x3FFF
    resetRampX := 0x00
    resetRampY := 0x00
    resetRampZ := 0x00
    resetRampD := 0x00
    resetEind := 0x00 }

end Sys2Proof.Machine
end

