-- ==== Sys2Proof/Machine/Memory.lean ====
section
/-! DEFINITION. Memory as a list of (address, byte) pairs in one canonical form: addresses strictly rising, no entry
equal to what an unlisted address reads as. Program memory and internal SRAM are two such lists. -/

namespace Sys2Proof.Machine

/-- A sparse memory: the listed bytes, by rising address. -/
abbrev Memory := List Host.Cell

/-- The two memories State holds (20_memory.md R80). -/
inductive Store where
  | data | program
  deriving DecidableEq, Repr

/-- What an unlisted address reads as, the ONE definition for both memories: nothing for a byte of internal SRAM, so
that reading it faults (10_state.md R66; safe, log 5); 0xFF for a byte of program memory, the erased state that
20_memory.md R97 and 44_program_memory.md R351 name (PRESUMED, unsafe, log 6). -/
def unlisted : Store → Option Byte
  | .data => none
  | .program => some 0xFF#8

/-- The listed byte at an address. -/
def Memory.lookup : Memory → Nat → Option Byte
  | [], _ => none
  | (k, v) :: t, a => if k = a then some v else Memory.lookup t a

/-- List a byte at an address, in its place among rising addresses. -/
def Memory.insert (a : Nat) (v : Byte) : Memory → Memory
  | [] => [(a, v)]
  | (k, x) :: t =>
    if a < k then (a, v) :: (k, x) :: t
    else if k = a then (a, v) :: t
    else (k, x) :: Memory.insert a v t

/-- Unlist an address. -/
def Memory.erase (a : Nat) : Memory → Memory
  | [] => []
  | (k, x) :: t => if k = a then Memory.erase a t else (k, x) :: Memory.erase a t

/-- The byte at an address: the listed one, or what an unlisted address reads as. -/
def Memory.readByte (st : Store) (m : Memory) (a : Nat) : Option Byte :=
  match Memory.lookup m a with
  | some v => some v
  | none => unlisted st

/-- Store a byte: the value an unlisted address reads as is not listed. -/
def Memory.writeByte (st : Store) (m : Memory) (a : Nat) (v : Byte) : Memory :=
  if unlisted st = some v then Memory.erase a m else Memory.insert a v m

/-- The addresses rise strictly. -/
def Memory.rising : Memory → Bool
  | [] => true
  | [_] => true
  | (a, _) :: (b, y) :: t => decide (a < b) && Memory.rising ((b, y) :: t)

/-- The canonical form: rising addresses, and no entry that an unlisted address would read as anyway. -/
def Memory.wf (st : Store) (m : Memory) : Bool :=
  Memory.rising m && m.all (fun c => decide (unlisted st ≠ some c.2))

end Sys2Proof.Machine
end

