-- ==== Sys2Proof/Machine/State.lean ====
section
/-! DEFINITION. The machine's state as plain data, the ways a step can stop, and the state after reset. -/

namespace Sys2Proof.Machine

/-- The execution mode (10_state.md R62). -/
inductive Mode where
  | running | stopped | sleeping
  deriving DecidableEq, Repr

/-- What the platform and the interrupt controller see of a run, in order (70_reset_and_hazards.md R457). -/
inductive Event where
  /-- `PeriphRead(space, addr)` with the byte drawn (20_memory.md R95). -/
  | periphRead (space : Space) (addr : Nat) (v : Byte)
  /-- `PeriphWrite(space, addr, v)` (20_memory.md R95). -/
  | periphWrite (space : Space) (addr : Nat) (v : Byte)
  /-- `PeriphBitWrite(space, addr, b, x)` (20_memory.md R95). -/
  | periphBitWrite (space : Space) (addr : Nat) (b : Bit) (x : Bool)
  /-- `Platform.WatchdogRestart()` (46_mcu_control.md R413). -/
  | watchdogRestart
  /-- `IRQ.Acknowledge(v)` (60_exceptions.md R423). -/
  | acknowledge (v : PcWord)
  /-- `IRQ.ReturnFromInterrupt()` (60_exceptions.md R423). -/
  | returnFromInterrupt
  deriving DecidableEq, Repr

/-- The surroundings of the CPU as data: the MODEL's own fields, not the spec's (logs 8, 9 and 37). -/
structure Env where
  /-- The bytes the platform answers the next reads with, in order (20_memory.md R95, log 8). -/
  inputs : List Byte
  /-- How many reads were answered by a free value (log 8). -/
  draws : Nat
  /-- The answers of the next `IRQ.Request()` calls, in order: `None`, or a vector (60_exceptions.md R423, log 9). -/
  requests : List (Option Nat)
  /-- How many `IRQ.Request()` calls were answered by a free value (log 9). -/
  asks : Nat
  /-- The events so far, newest first (70_reset_and_hazards.md R457, log 37). -/
  trace : List Event
  deriving DecidableEq, Repr

/-- The complete state (10_state.md R40). -/
structure State where
  /-- The configuration record, constant during a run (00_scope.md R6; the MODEL's own field, log 1). -/
  cfg : Config
  /-- R0 to R31; R16 to R31 on AVRrc (10_state.md R41, R42). -/
  regs : Vector Byte 32
  /-- The Program Counter, a word address (10_state.md R44). -/
  pc : PcWord
  /-- SREG (10_state.md R48). -/
  sreg : Sreg
  /-- The Stack Pointer (10_state.md R50). -/
  sp : BitVec 16
  /-- RAMPX (10_state.md R53). -/
  rampx : Byte
  /-- RAMPY (10_state.md R54). -/
  rampy : Byte
  /-- RAMPZ (10_state.md R55). -/
  rampz : Byte
  /-- RAMPD (10_state.md R56). -/
  rampd : Byte
  /-- EIND (10_state.md R57). -/
  eind : Byte
  /-- Internal SRAM, by data-space address (10_state.md R40). -/
  dmem : Memory
  /-- Program memory, by byte address: word `a` has its low byte at `2a` (20_memory.md R81, R96). -/
  pmem : Memory
  /-- Running, Stopped or Sleeping (10_state.md R62). -/
  mode : Mode
  /-- `irq_inhibit`: the latch SEI sets (10_state.md R63). -/
  irqInhibit : Bool
  /-- The platform and the interrupt controller. -/
  env : Env
  deriving DecidableEq, Repr

/-- The faults of the model (60_exceptions.md R420). The hardware raises no synchronous exception (R421): each fault is
a point the manual leaves open, and stopping there is safe. -/
inductive Fault where
  /-- A word of an instruction is to be fetched above `FLASHEND`. Raised by the fetch and by a taken skip. Safe. -/
  | fetchOutOfRange (addr : Nat)
  /-- The first word matches no row of the opcode table. Raised by the fetch. Safe. -/
  | illegalInstruction (pc : Nat) (word : Word)
  /-- The CPU version or the device lacks the instruction. Raised by the fetch. Safe. -/
  | unavailableInstruction (pc : Nat) (name : Mnemonic)
  /-- A register combination the manual calls undefined, or a store with update that lands on its own pointer's registers.
  Raised by LD, ST, LPM, ELPM with update. Safe. -/
  | undefinedOperands (pc : Nat)
  /-- Nothing stands at the address, or it is program memory and is stored to. Raised by every access. Safe. -/
  | unmappedAccess (space : Space) (addr : Nat)
  /-- On AVRrc a register below R16 is named. Raised by every register access. Safe. -/
  | registerOutOfRange (pc : Nat) (reg : Reg)
  /-- A byte of internal SRAM that nothing has written is read. Raised by data-space reads. Safe. -/
  | unwrittenRead (addr : Nat)
  /-- XCH, LAS, LAC or LAT points outside internal SRAM. Safe. -/
  | rmwOutsideSram (addr : Nat)
  deriving DecidableEq, Repr

/-- The refusals of the model. Each is safe: the model says nothing about the hardware. -/
inductive Refusal where
  /-- No meaning yet for the instruction of that name. Raised by no arm once every meaning stands. -/
  | notModelled (mnemonic : String)
  /-- `Unmodelled(SPM)`: SPM or SPM Z+ is executed (44_program_memory.md R351). -/
  | unmodelledSpm
  /-- The configuration record is one the model does not start with (60_exceptions.md R420). -/
  | configurationRefused
  deriving DecidableEq, Repr

/-- A step that stops: with a fault or with a refusal. -/
inductive Stop where
  | fault (f : Fault)
  | refused (r : Refusal)
  deriving DecidableEq, Repr

/-- A result, or the reason to stop: the `raise` of the rules (00_scope.md R10). -/
abbrev Res (α : Type) := Except Stop α

/-- The outcome of a step whose effect is a result or a reason to stop. -/
def finish (r : Res State) : Host.Outcome State Fault Refusal :=
  match r with
  | .ok s => .next s
  | .error (.fault f) => .fault f
  | .error (.refused q) => .refused q

/-- The reset state of a device (70_reset_and_hazards.md R450), nothing loaded and no input given. The general registers
hold 0, a value the spec does not give (DESIGN CHOICE, unsafe, log 4). -/
def State.resetOf (cfg : Config) : State :=
  { cfg := cfg
    regs := Vector.replicate 32 0x00#8
    pc := BitVec.ofNat 22 cfg.resetPc
    sreg := Sreg.ofByte cfg.resetSreg
    sp := BitVec.ofNat 16 cfg.resetSp
    rampx := cfg.resetRampX
    rampy := cfg.resetRampY
    rampz := cfg.resetRampZ
    rampd := cfg.resetRampD
    eind := cfg.resetEind
    dmem := []
    pmem := []
    mode := .running
    irqInhibit := false
    env := { inputs := [], draws := 0, requests := [], asks := 0, trace := [] } }

/-- The machine right after reset: the reset state of the default device (70_reset_and_hazards.md R450, log 2). -/
def State.reset : State := State.resetOf defaultDevice

end Sys2Proof.Machine
end

