-- ==== Sys2Proof/Machine/Ops.lean ====
section
/-! DEFINITION. The named operations over registers, I/O space, program memory, data space and the stack, and the
machine's one exception: interrupt entry, with the return from it. -/

namespace Sys2Proof.Machine

/-- Stop with a fault: `raise` of the rules (60_exceptions.md R420). -/
def raise {α : Type} (f : Fault) : Res α := .error (.fault f)

/-! ### Registers -/

/-- The register exists: every register but R0 to R15 on AVRrc (10_state.md R42). -/
def State.hasReg (s : State) (i : Reg) : Bool :=
  decide (s.cfg.core ≠ .avrRc) || decide (16 ≤ i.val)

/-- `R[i]` where the register is known to exist. -/
def State.reg (s : State) (i : Reg) : Byte := s.regs[i.val]

/-- `R[i] <- v` where the register is known to exist. -/
def State.setReg (s : State) (i : Reg) (v : Byte) : State :=
  { s with regs := s.regs.set i.val v }

/-- `R[i]`: AVRrc has no register below R16 (10_state.md R42). -/
def State.readReg (s : State) (i : Reg) : Res Byte :=
  if s.hasReg i then .ok (s.reg i) else raise (.registerOutOfRange s.pc.toNat i)

/-- `R[i] <- v` (10_state.md R42). -/
def State.writeReg (s : State) (i : Reg) (v : Byte) : Res State :=
  if s.hasReg i then .ok (s.setReg i v) else raise (.registerOutOfRange s.pc.toNat i)

/-- `pair(i)`: `R[i+1]:R[i]` (00_scope.md R10). -/
def State.readPair (s : State) (i : Reg) : Res Word := do
  let lo ← s.readReg i
  let hi ← s.readReg (i + 1)
  pure (hi ++ lo)

/-- `pair(i) <- v` (00_scope.md R10). -/
def State.writePair (s : State) (i : Reg) (v : Word) : Res State := do
  let s ← s.writeReg i (v.extractLsb' 0 8)
  s.writeReg (i + 1) (v.extractLsb' 8 8)

/-- The status register as a whole. -/
def State.setSreg (s : State) (f : Sreg) : State := { s with sreg := f }

/-- `pc <- v`, reduced modulo 2^PC_BITS (10_state.md R47). -/
def State.setPc (s : State) (v : Int) : State :=
  { s with pc := BitVec.ofNat 22 (v % ((2 ^ s.cfg.pcBits : Nat) : Int)).toNat }

/-- `pc <- pc + n`. -/
def State.advance (s : State) (n : Nat) : State := s.setPc ((s.pc.toNat : Int) + n)

/-- `SP <- v`, reduced modulo 2^SP_BITS (10_state.md R50). -/
def State.setSp (s : State) (v : Int) : State :=
  { s with sp := BitVec.ofNat 16 (v % ((2 ^ s.cfg.spBits : Nat) : Int)).toNat }

/-- The mode (10_state.md R62). -/
def State.setMode (s : State) (m : Mode) : State := { s with mode := m }

/-- `irq_inhibit` (10_state.md R63). -/
def State.setIrqInhibit (s : State) (x : Bool) : State := { s with irqInhibit := x }

/-- RAMPX (10_state.md R53). -/
def State.setRampx (s : State) (v : Byte) : State := { s with rampx := v }

/-- RAMPY (10_state.md R54). -/
def State.setRampy (s : State) (v : Byte) : State := { s with rampy := v }

/-- RAMPZ (10_state.md R55). -/
def State.setRampz (s : State) (v : Byte) : State := { s with rampz := v }

/-- RAMPD (10_state.md R56). -/
def State.setRampd (s : State) (v : Byte) : State := { s with rampd := v }

/-- EIND (10_state.md R57). -/
def State.setEind (s : State) (v : Byte) : State := { s with eind := v }

/-- The surroundings of the CPU. -/
def State.setEnv (s : State) (e : Env) : State := { s with env := e }

/-! ### The platform and the interrupt controller -/

/-- One more event of the trace (70_reset_and_hazards.md R457). -/
def State.record (s : State) (e : Event) : State :=
  s.setEnv { s.env with trace := e :: s.env.trace }

/-- The platform's answer to the next read: the next input, or a free value (20_memory.md R95; safe, log 8). -/
def Env.nextByte (e : Env) : Byte × Env :=
  match e.inputs with
  | v :: t => (v, { e with inputs := t })
  | [] => (Config.platformByte e.draws, { e with draws := e.draws + 1 })

/-- The platform declares the address absent (20_memory.md R95). -/
def State.isAbsent (s : State) (space : Space) (a : Nat) : Bool :=
  s.cfg.platformAbsent.contains (space, a)

/-- `PeriphRead(space, addr)` (20_memory.md R95). -/
def State.periphRead (s : State) (space : Space) (a : Nat) : Res (Byte × State) :=
  if s.isAbsent space a then raise (.unmappedAccess space a)
  else .ok (s.env.nextByte.1, (s.setEnv s.env.nextByte.2).record (.periphRead space a s.env.nextByte.1))

/-- `PeriphWrite(space, addr, v)`: no effect on CPU state (20_memory.md R95). -/
def State.periphWrite (s : State) (space : Space) (a : Nat) (v : Byte) : Res State :=
  if s.isAbsent space a then raise (.unmappedAccess space a)
  else .ok (s.record (.periphWrite space a v))

/-- `PeriphBitWrite(space, addr, b, x)`: no effect on CPU state (20_memory.md R95). -/
def State.periphBitWrite (s : State) (space : Space) (a : Nat) (b : Bit) (x : Bool) : Res State :=
  if s.isAbsent space a then raise (.unmappedAccess space a)
  else .ok (s.record (.periphBitWrite space a b x))

/-- An answer as a vector, which is a word address from 0 to `FLASHEND`: any such address stands for itself
(60_exceptions.md R423). -/
def vectorOf (cfg : Config) (n : Nat) : PcWord := BitVec.ofNat 22 (n % (cfg.flashEnd + 1))

/-- `IRQ.Request()`: the controller's answer at this boundary, and the surroundings after it: the next given answer, or a
free value; `None`, or any vector up to `FLASHEND` (60_exceptions.md R423, 70_reset_and_hazards.md R455; safe, log 9). -/
def State.nextRequest (s : State) : Option PcWord × Env :=
  match s.env.requests with
  | a :: t => (a.map (vectorOf s.cfg), { s.env with requests := t })
  | [] => ((Config.irqAnswer s.env.asks).map (vectorOf s.cfg), { s.env with asks := s.env.asks + 1 })

/-! ### I/O space -/

/-- The CPU registers that have an I/O address (10_state.md R52 to R60). -/
inductive CpuIo where
  | sreg | spl | sph | rampx | rampy | rampz | rampd | eind
  deriving DecidableEq, Repr

/-- The CPU register at an I/O address; a configured address whose register is absent is no CPU register
(20_memory.md R93). -/
def cpuIoAt (cfg : Config) (a : Nat) : Option CpuIo :=
  if cfg.ioSreg = some a then some .sreg
  else if cfg.ioSpl = some a then some .spl
  else if cfg.ioSph = some a then some .sph
  else if cfg.hasRampX ∧ cfg.ioRampX = some a then some .rampx
  else if cfg.hasRampY ∧ cfg.ioRampY = some a then some .rampy
  else if cfg.hasRampZ ∧ cfg.ioRampZ = some a then some .rampz
  else if cfg.hasRampD ∧ cfg.ioRampD = some a then some .rampd
  else if cfg.hasEind ∧ cfg.ioEind = some a then some .eind
  else none

/-- SPH as read: the bits of SP above bit 7, 0 where SP has none (20_memory.md R93). -/
def State.spHigh (s : State) : Byte :=
  if s.cfg.spBits ≤ 8 then 0x00#8 else BitVec.ofNat 8 (s.sp.toNat / 256)

/-- SPL written: the low byte of SP, kept to SP_BITS bits (20_memory.md R93). -/
def State.setSpLow (s : State) (v : Byte) : State :=
  s.setSp ((s.sp.toNat / 256 * 256 + v.toNat : Nat) : Int)

/-- SPH written: the bits of SP above bit 7, nothing where SP has none (20_memory.md R93). -/
def State.setSpHigh (s : State) (v : Byte) : State :=
  if s.cfg.spBits ≤ 8 then s else s.setSp ((v.toNat * 256 + s.sp.toNat % 256 : Nat) : Int)

/-- The value a CPU register reads as in I/O space (20_memory.md R93). -/
def State.cpuIoRead (s : State) : CpuIo → Byte
  | .sreg => s.sreg.toByte
  | .spl => BitVec.ofNat 8 s.sp.toNat
  | .sph => s.spHigh
  | .rampx => s.rampx
  | .rampy => s.rampy
  | .rampz => s.rampz
  | .rampd => s.rampd
  | .eind => s.eind

/-- A CPU register written through I/O space; a write of SREG does not touch `irq_inhibit` (20_memory.md R93,
10_state.md R58). -/
def State.cpuIoWrite (s : State) (r : CpuIo) (v : Byte) : State :=
  match r with
  | .sreg => s.setSreg (Sreg.ofByte v)
  | .spl => s.setSpLow v
  | .sph => s.setSpHigh v
  | .rampx => s.setRampx v
  | .rampy => s.setRampy v
  | .rampz => s.setRampz v
  | .rampd => s.setRampd v
  | .eind => s.setEind v

/-- `IoRead(a)` (20_memory.md R93). -/
def State.ioRead (s : State) (a : Nat) : Res (Byte × State) :=
  match cpuIoAt s.cfg a with
  | some r => .ok (s.cpuIoRead r, s)
  | none => s.periphRead .io a

/-- `IoWrite(a, v)` (20_memory.md R93). -/
def State.ioWrite (s : State) (a : Nat) (v : Byte) : Res State :=
  match cpuIoAt s.cfg a with
  | some r => .ok (s.cpuIoWrite r v)
  | none => s.periphWrite .io a v

/-- A byte with one bit replaced. -/
def withBit (v : Byte) (b : Bit) (x : Bool) : Byte :=
  if x then v ||| (1#8 <<< b.val) else v &&& ~~~(1#8 <<< b.val)

/-- `IoBitRead(A, b)` (20_memory.md R94). -/
def State.ioBitRead (s : State) (a : Nat) (b : Bit) : Res (Bool × State) := do
  let (v, s) ← s.ioRead a
  pure (v.getLsbD b.val, s)

/-- `IoBitWrite(A, b, x)`: one bit of a CPU register, or a bit write handed to the platform (20_memory.md R94). -/
def State.ioBitWrite (s : State) (a : Nat) (b : Bit) (x : Bool) : Res State :=
  match cpuIoAt s.cfg a with
  | some r => .ok (s.cpuIoWrite r (withBit (s.cpuIoRead r) b x))
  | none => s.periphBitWrite .io a b x

/-! ### Program space -/

/-- The byte of program memory at a byte address, whatever `FLASHEND` is. -/
def State.flashByte (s : State) (b : Nat) : Byte :=
  (Memory.readByte .program s.pmem b).getD 0xFF#8

/-- The word of program memory at a word address: low byte at the even byte address (20_memory.md R81). -/
def State.flashWord (s : State) (a : Nat) : Word :=
  s.flashByte (2 * a + 1) ++ s.flashByte (2 * a)

/-- `ProgWord(a)` (20_memory.md R97). -/
def State.progWord (s : State) (a : Nat) : Res Word :=
  if s.cfg.flashEnd < a then raise (.fetchOutOfRange a) else .ok (s.flashWord a)

/-- `ProgByte(b)` (20_memory.md R98). -/
def State.progByte (s : State) (b : Nat) : Res Byte :=
  if s.cfg.flashEnd < b / 2 then raise (.unmappedAccess .program b) else .ok (s.flashByte b)

/-! ### Data space -/

/-- The byte of internal SRAM at an address, nothing where none was written (10_state.md R66). -/
def State.sramByte (s : State) (a : Nat) : Option Byte := Memory.readByte .data s.dmem a

/-- A byte written to internal SRAM. -/
def State.setSramByte (s : State) (a : Nat) (v : Byte) : State :=
  { s with dmem := Memory.writeByte .data s.dmem a v }

/-- A read of internal SRAM (20_memory.md R86, the `Sram` line). -/
def State.sramRead (s : State) (a : Nat) : Res Byte :=
  match s.sramByte a with
  | some v => .ok v
  | none => raise (.unwrittenRead a)

/-- `MemRead(addr, 1)`, the only data-space read (20_memory.md R86). -/
def State.memRead (s : State) (a : Nat) : Res (Byte × State) :=
  match dsMap s.cfg a with
  | .reg n => do let v ← s.readReg n; pure (v, s)
  | .io i => s.ioRead i
  | .sram => do let v ← s.sramRead a; pure (v, s)
  | .flash b => do let v ← s.progByte b; pure (v, s)
  | .other => s.periphRead .data a
  | .unmapped => raise (.unmappedAccess .data a)

/-- `MemWrite(addr, 1, v)`, the only data-space write (20_memory.md R87). -/
def State.memWrite (s : State) (a : Nat) (v : Byte) : Res State :=
  match dsMap s.cfg a with
  | .reg n => s.writeReg n v
  | .io i => s.ioWrite i v
  | .sram => .ok (s.setSramByte a v)
  | .flash _ => raise (.unmappedAccess .data a)
  | .other => s.periphWrite .data a v
  | .unmapped => raise (.unmappedAccess .data a)

/-! ### The stack -/

/-- `Push(v)`: the byte at SP, then SP - 1, SP being what the write left (10_state.md R51). -/
def State.push (s : State) (v : Byte) : Res State := do
  let s ← s.memWrite s.sp.toNat v
  pure (s.setSp ((s.sp.toNat : Int) - 1))

/-- `Pop()`: SP + 1, then the byte at SP (10_state.md R51). -/
def State.pop (s : State) : Res (Byte × State) :=
  let s := s.setSp ((s.sp.toNat : Int) + 1)
  s.memRead s.sp.toNat

/-- A return address takes three bytes where the Program Counter has more than 16 bits (00_scope.md R6, `RA_BYTES`). -/
def threeByteReturn (cfg : Config) : Bool := decide (16 < cfg.pcBits)

/-- Byte `n` of the return address `a`, the address reduced to PC_BITS bits (42_change_of_flow.md R224). -/
def returnByte (cfg : Config) (a n : Nat) : Byte :=
  BitVec.ofNat 8 (a % 2 ^ cfg.pcBits / 256 ^ n)

/-- `PushRA(a)`: the low byte is stored first, so the most significant byte lies at the lowest address
(42_change_of_flow.md R224; byte order PRESUMED, unsafe, log 11). -/
def State.pushReturn (s : State) (a : Nat) : Res State := do
  let s ← s.push (returnByte s.cfg a 0)
  let s ← s.push (returnByte s.cfg a 1)
  if threeByteReturn s.cfg then s.push (returnByte s.cfg a 2) else pure s

/-- The top byte of a return address, 0 where it takes two bytes (42_change_of_flow.md R229). -/
def State.popTop (s : State) : Res (Byte × State) :=
  if threeByteReturn s.cfg then s.pop else .ok (0x00#8, s)

/-- `PopRA()`: the bytes in the opposite order (42_change_of_flow.md R229); the caller's `pc <-` drops the bits above
PC_BITS. -/
def State.popReturn (s : State) : Res (Nat × State) := do
  let (b2, s) ← s.popTop
  let (b1, s) ← s.pop
  let (b0, s) ← s.pop
  pure (b2.toNat * 65536 + b1.toNat * 256 + b0.toNat, s)

/-! ### Taking an interrupt, the machine's one exception, and the return from it -/

/-- The CPU versions that clear I at interrupt entry and set it at RETI (60_exceptions.md R427). -/
def handlesIFlag (c : Cpu) : Bool := decide (c ≠ .avrXm ∧ c ≠ .avrXt)

/-- I set or cleared by the hardware, on the CPU versions that do so (60_exceptions.md R427). -/
def State.hardwareIFlag (s : State) (x : Bool) : State :=
  if handlesIFlag s.cfg.core then s.setSreg { s.sreg with i := x } else s

/-- `InterruptEntry(v)`: leave sleep, push the address of the next instruction, clear I where the version does,
go to the vector, acknowledge (60_exceptions.md R425). -/
def State.interruptEntry (s : State) (v : PcWord) : Res State := do
  let s ← (s.setMode .running).pushReturn s.pc.toNat
  pure (((s.hardwareIFlag false).setPc v.toNat).record (.acknowledge v))

/-- The return from an interrupt: the address from the stack, I set where the version does, the controller told
(42_change_of_flow.md R231). -/
def State.interruptReturn (s : State) : Res State := do
  let (a, s) ← s.popReturn
  pure (((s.setPc a).hardwareIFlag true).record .returnFromInterrupt)

end Sys2Proof.Machine
end

