-- ==== Sys2Proof/Machine/Operands.lean ====
section
/-! DEFINITION. The operand forms: register operands with a result and flags, the pointers, direct addresses, the
extended Z pointer of program memory, relative targets, skips. -/

namespace Sys2Proof.Machine

/-- What a meaning answers. -/
abbrev StepOutcome := Host.Outcome State Fault Refusal

/-! ### Register operands -/

/-- Rd and Rr are read, the result goes to Rd, the flags are set, `pc <- pc + 1`. -/
def State.twoReg (s : State) (d r : Reg) (f : Byte → Byte → Byte × Sreg) : Res State := do
  let a ← s.readReg d
  let b ← s.readReg r
  let s ← (s.setSreg (f a b).2).writeReg d (f a b).1
  pure (s.advance 1)

/-- Rd is read, the result goes to Rd, the flags are set, `pc <- pc + 1`. -/
def State.oneReg (s : State) (d : Reg) (f : Byte → Byte × Sreg) : Res State := do
  let a ← s.readReg d
  let s ← (s.setSreg (f a).2).writeReg d (f a).1
  pure (s.advance 1)

/-- Rd and Rr are read, the flags are set, no register is written, `pc <- pc + 1`. -/
def State.testTwo (s : State) (d r : Reg) (f : Byte → Byte → Sreg) : Res State := do
  let a ← s.readReg d
  let b ← s.readReg r
  pure ((s.setSreg (f a b)).advance 1)

/-- Rd is read, the flags are set, no register is written, `pc <- pc + 1`. -/
def State.testOne (s : State) (d : Reg) (f : Byte → Sreg) : Res State := do
  let a ← s.readReg d
  pure ((s.setSreg (f a)).advance 1)

/-- The pair Rd+1:Rd is read, the result goes to it, the flags are set, `pc <- pc + 1`. -/
def State.wordReg (s : State) (d : Reg) (f : Word → Word × Sreg) : Res State := do
  let p ← s.readPair d
  let s ← (s.setSreg (f p).2).writePair d (f p).1
  pure (s.advance 1)

/-- `Multiply d, r`: both operands are read before R1:R0 is written (41_multiply_des.md R207). -/
def State.multiply (s : State) (d r : Reg) (dSigned rSigned frac : Bool) : Res State := do
  let a ← s.readReg d
  let b ← s.readReg r
  let p := mulFlags s.sreg a b dSigned rSigned frac
  let s ← (s.setSreg p.2).writePair 0 p.1
  pure (s.advance 1)

/-- The registers `base` to `base + n - 1` as one number, the first the least significant byte
(41_multiply_des.md R206). -/
def State.readBlock (s : State) (base : Reg) : Nat → Res Nat
  | 0 => pure 0
  | n + 1 => do
    let low ← s.readBlock base n
    let v ← s.readReg (base + Fin.ofNat 32 n)
    pure (low + v.toNat * 256 ^ n)

/-- The registers `base` to `base + n - 1` written from one value, the first the least significant byte
(41_multiply_des.md R206). -/
def State.writeBlock (s : State) (base : Reg) (v : BitVec 64) : Nat → Res State
  | 0 => pure s
  | n + 1 => do
    let s ← s.writeBlock base v n
    s.writeReg (base + Fin.ofNat 32 n) (v.extractLsb' (8 * n) 8)

/-! ### Pointers -/

/-- The pointer registers (43_data_transfer.md R285). -/
inductive Ptr where
  | x | y | z
  deriving DecidableEq, Repr

/-- The low register of a pointer: R26, R28, R30 (43_data_transfer.md R285). -/
def Ptr.lo : Ptr → Reg
  | .x => 26
  | .y => 28
  | .z => 30

/-- The high register of a pointer: R27, R29, R31 (43_data_transfer.md R285). -/
def Ptr.hi : Ptr → Reg
  | .x => 27
  | .y => 29
  | .z => 31

/-- The extension register of a pointer is present (43_data_transfer.md R285). -/
def hasRamp (cfg : Config) : Ptr → Bool
  | .x => cfg.hasRampX
  | .y => cfg.hasRampY
  | .z => cfg.hasRampZ

/-- The extension register of a pointer: RAMPX, RAMPY, RAMPZ (43_data_transfer.md R285). -/
def State.ramp (s : State) : Ptr → Byte
  | .x => s.rampx
  | .y => s.rampy
  | .z => s.rampz

/-- The extension register of a pointer is written. -/
def State.setRamp (s : State) (p : Ptr) (v : Byte) : State :=
  match p with
  | .x => s.setRampx v
  | .y => s.setRampy v
  | .z => s.setRampz v

/-- `PtrBits(P)` (43_data_transfer.md R285). -/
def ptrBits (cfg : Config) (p : Ptr) : Nat :=
  if cfg.dsBits = 8 then 8 else if hasRamp cfg p then 24 else 16

/-- `PtrGet(P)` (43_data_transfer.md R285). -/
def State.ptrGet (s : State) (p : Ptr) : Nat :=
  if ptrBits s.cfg p = 8 then (s.reg p.lo).toNat
  else if ptrBits s.cfg p = 16 then (s.reg p.hi).toNat * 256 + (s.reg p.lo).toNat
  else (s.ramp p).toNat * 65536 + (s.reg p.hi).toNat * 256 + (s.reg p.lo).toNat

/-- `PtrSet(P, v)`: the high register is not written where the pointer has 8 bits, the extension register is written
where it has 24 (43_data_transfer.md R285). -/
def State.ptrSet (s : State) (p : Ptr) (v : Nat) : State :=
  let s := s.setReg p.lo (BitVec.ofNat 8 v)
  if ptrBits s.cfg p = 8 then s
  else if ptrBits s.cfg p = 16 then s.setReg p.hi (BitVec.ofNat 8 (v / 256))
  else (s.setReg p.hi (BitVec.ofNat 8 (v / 256))).setRamp p (BitVec.ofNat 8 (v / 65536))

/-- The pointer value `v + n`, at the pointer's width (43_data_transfer.md R285). -/
def ptrAdd (cfg : Config) (p : Ptr) (v n : Nat) : Nat := (v + n) % 2 ^ ptrBits cfg p

/-- The pointer value `v - 1`, at the pointer's width (43_data_transfer.md R285). -/
def ptrPrev (cfg : Config) (p : Ptr) (v : Nat) : Nat := (v + 2 ^ ptrBits cfg p - 1) % 2 ^ ptrBits cfg p

/-- `EA(v)`, the data-space address of an access (43_data_transfer.md R285). -/
def ea (cfg : Config) (v : Nat) : Nat := v % 2 ^ cfg.dsBits

/-- A register is one of the pointer's own (43_data_transfer.md R287 and its relatives). -/
def isOwnReg (p : Ptr) (d : Reg) : Bool := decide (d = p.lo) || decide (d = p.hi)

/-- A data-space address is the image of one of the pointer's own registers (43_data_transfer.md R301, R304, R308,
60_exceptions.md R420). -/
def landsOnOwnReg (cfg : Config) (p : Ptr) (a : Nat) : Bool :=
  match dsMap cfg a with
  | .reg n => isOwnReg p n
  | _ => false

/-- A combination the manual calls undefined stops: `raise UndefinedOperands(pc)` of the instructions' own rules and of the
table of faults (43_data_transfer.md R287, R288, R290, R291, R294, R295, R301, R302, R304, R305, R308, R309,
44_program_memory.md R342, R345, 60_exceptions.md R420; safe, logs 14 and 15). -/
def State.requireDefined (s : State) (undefinedOperands : Bool) : Res Unit :=
  if undefinedOperands then raise (.undefinedOperands s.pc.toNat) else .ok ()

/-- `R[d] <- MemRead(a, 1)`. -/
def State.loadReg (s : State) (d : Reg) (a : Nat) : Res State := do
  let (v, s) ← s.memRead a
  s.writeReg d v

/-- `MemWrite(a, 1, R[r])`. -/
def State.storeReg (s : State) (r : Reg) (a : Nat) : Res State := do
  let v ← s.readReg r
  s.memWrite a v

/-- LD through a pointer left unchanged, with a displacement (43_data_transfer.md R286, R292). -/
def State.loadPtr (s : State) (d : Reg) (p : Ptr) (q : Nat) : Res State := do
  let s ← s.loadReg d (ea s.cfg (ptrAdd s.cfg p (s.ptrGet p) q))
  pure (s.advance 1)

/-- LD with post-increment (43_data_transfer.md R287). -/
def State.loadPtrInc (s : State) (d : Reg) (p : Ptr) : Res State := do
  s.requireDefined (isOwnReg p d)
  let a := s.ptrGet p
  let s ← s.loadReg d (ea s.cfg a)
  pure ((s.ptrSet p (ptrAdd s.cfg p a 1)).advance 1)

/-- LD with pre-decrement (43_data_transfer.md R288). -/
def State.loadPtrDec (s : State) (d : Reg) (p : Ptr) : Res State := do
  s.requireDefined (isOwnReg p d)
  let a := ptrPrev s.cfg p (s.ptrGet p)
  let s ← (s.ptrSet p a).loadReg d (ea s.cfg a)
  pure (s.advance 1)

/-- ST through a pointer left unchanged, with a displacement (43_data_transfer.md R300, R306). -/
def State.storePtr (s : State) (r : Reg) (p : Ptr) (q : Nat) : Res State := do
  let s ← s.storeReg r (ea s.cfg (ptrAdd s.cfg p (s.ptrGet p) q))
  pure (s.advance 1)

/-- ST with post-increment (43_data_transfer.md R301). -/
def State.storePtrInc (s : State) (r : Reg) (p : Ptr) : Res State := do
  s.requireDefined (isOwnReg p r)
  let a := s.ptrGet p
  s.requireDefined (landsOnOwnReg s.cfg p (ea s.cfg a))
  let s ← s.storeReg r (ea s.cfg a)
  pure ((s.ptrSet p (ptrAdd s.cfg p a 1)).advance 1)

/-- ST with pre-decrement: the pointer is written before the store. A store that lands on the pointer's own registers stops,
as the table of faults has it (60_exceptions.md R420, decision D16; 43_data_transfer.md R302, R305, R309, whose text has no
such stop; DEDUCED, safe, log 15). -/
def State.storePtrDec (s : State) (r : Reg) (p : Ptr) : Res State := do
  s.requireDefined (isOwnReg p r)
  let a := ptrPrev s.cfg p (s.ptrGet p)
  s.requireDefined (landsOnOwnReg s.cfg p (ea s.cfg a))
  let s ← (s.ptrSet p a).storeReg r (ea s.cfg a)
  pure (s.advance 1)

/-! ### Direct addresses -/

/-- `DirectAddr(k)` of the two-word LDS and STS (43_data_transfer.md R297). -/
def State.directAddr (s : State) (k : Word) : Nat :=
  if s.cfg.hasRampD then ea s.cfg (s.rampd.toNat * 65536 + k.toNat) else ea s.cfg k.toNat

/-- `RcAddr`: the data address of the one-word LDS and STS of AVRrc, from `k = INST[10:8]:INST[3:0]`:
`~INST[8] : INST[8] : INST[10] : INST[9] : INST[3:0]` (43_data_transfer.md R284). -/
def rcAddr (k : BitVec 7) : Nat :=
  (if k.getLsbD 4 then 64 else 128) + (k.toNat / 64 % 2) * 32 + (k.toNat / 32 % 2) * 16 + k.toNat % 16

/-- The read-modify-write instructions: SRAM only, Rd receives the old byte (43_data_transfer.md R319). -/
def State.readModifyWrite (s : State) (d : Reg) (f : Byte → Byte → Byte) : Res State := do
  let a := ea s.cfg (s.ptrGet .z)
  if dsMap s.cfg a = .sram then
    let (old, s) ← s.memRead a
    let reg ← s.readReg d
    let s ← s.memWrite a (f old reg)
    let s ← s.writeReg d old
    pure (s.advance 1)
  else raise (.rmwOutsideSram a)

/-! ### Program memory -/

/-- Z as the 16-bit byte address of LPM, whatever the width of data addresses (44_program_memory.md R340). -/
def State.zWord (s : State) : Nat := (s.reg 31).toNat * 256 + (s.reg 30).toNat

/-- Z written whole. -/
def State.setZWord (s : State) (v : Nat) : State :=
  (s.setReg 30 (BitVec.ofNat 8 v)).setReg 31 (BitVec.ofNat 8 (v / 256))

/-- `ZExt()`: an absent RAMPZ reads as zero (44_program_memory.md R346). -/
def State.zExt (s : State) : Nat :=
  if s.cfg.hasRampZ then s.rampz.toNat * 65536 + s.zWord else s.zWord

/-- `ZExtBits` (44_program_memory.md R346). -/
def zExtBits (cfg : Config) : Nat := if cfg.hasRampZ then 24 else 16

/-- `ZExtSet(v)` (44_program_memory.md R346). -/
def State.setZExt (s : State) (v : Nat) : State :=
  if s.cfg.hasRampZ then (s.setZWord v).setRampz (BitVec.ofNat 8 (v / 65536)) else s.setZWord v

/-- `R[d] <- ProgByte(b)`. -/
def State.loadProg (s : State) (d : Reg) (b : Nat) : Res State := do
  let v ← s.progByte b
  s.writeReg d v

/-! ### Relative targets and skips -/

/-- `pc <- pc + k + 1`, `k` signed (42_change_of_flow.md R220, R241). -/
def State.jumpRelative (s : State) (k : Int) : State := s.setPc ((s.pc.toNat : Int) + k + 1)

/-- `Branch(cond, k)` (42_change_of_flow.md R241). -/
def State.branch (s : State) (cond : Bool) (k : BitVec 7) : State :=
  s.jumpRelative (if cond then k.toInt else 0)

/-- `Len(w, CORE)`: two words for JMP, CALL and the 32-bit LDS and STS, on every version but AVRrc
(30_encoding.md R133). -/
def instructionLength (c : Cpu) (w : Word) : Nat :=
  if c ≠ .avrRc ∧ (w &&& 0xFE0C#16 = 0x940C#16 ∨ w &&& 0xFC0F#16 = 0x9000#16) then 2 else 1

/-- `Skip(cond)`: the next word is read only where the condition holds, and for its length only
(42_change_of_flow.md R232). -/
def State.skip (s : State) (cond : Bool) : Res State :=
  let next := (s.pc.toNat + 1) % 2 ^ s.cfg.pcBits
  if next ≤ s.cfg.flashEnd then
    .ok (s.advance (if cond then 1 + instructionLength s.cfg.core (s.flashWord next) else 1))
  else if cond then raise (.fetchOutOfRange next)
  else .ok (s.advance 1)

end Sys2Proof.Machine
end

