-- ==== Sys2Proof/Machine/Arith.lean ====
section
/-! DEFINITION. Arithmetic and logic instructions (40_arithmetic_logic.md). -/

namespace Sys2Proof.Machine

/-- ADD (40_arithmetic_logic.md R163). -/
def execAdd (d r : Reg) (s : State) : StepOutcome :=
  finish (s.twoReg d r fun a b => addFlags s.sreg a b false)

/-- ADC: the C flag of before the instruction is added (40_arithmetic_logic.md R164). -/
def execAdc (d r : Reg) (s : State) : StepOutcome :=
  finish (s.twoReg d r fun a b => addFlags s.sreg a b s.sreg.c)

/-- ADIW: H is not affected (40_arithmetic_logic.md R165). -/
def execAdiw (d : Reg) (K : BitVec 6) (s : State) : StepOutcome :=
  finish (s.wordReg d fun p => addWordFlags s.sreg p K)

/-- SUB (40_arithmetic_logic.md R166). -/
def execSub (d r : Reg) (s : State) : StepOutcome :=
  finish (s.twoReg d r fun a b => subFlags s.sreg a b false false)

/-- SUBI (40_arithmetic_logic.md R167). -/
def execSubi (d : Reg) (K : Byte) (s : State) : StepOutcome :=
  finish (s.oneReg d fun a => subFlags s.sreg a K false false)

/-- SBC: Z keeps its value when the result is zero (40_arithmetic_logic.md R168). -/
def execSbc (d r : Reg) (s : State) : StepOutcome :=
  finish (s.twoReg d r fun a b => subFlags s.sreg a b s.sreg.c true)

/-- SBCI: Z keeps its value when the result is zero (40_arithmetic_logic.md R169). -/
def execSbci (d : Reg) (K : Byte) (s : State) : StepOutcome :=
  finish (s.oneReg d fun a => subFlags s.sreg a K s.sreg.c true)

/-- SBIW: H is not affected (40_arithmetic_logic.md R170). -/
def execSbiw (d : Reg) (K : BitVec 6) (s : State) : StepOutcome :=
  finish (s.wordReg d fun p => subWordFlags s.sreg p K)

/-- AND (40_arithmetic_logic.md R171). -/
def execAnd (d r : Reg) (s : State) : StepOutcome :=
  finish (s.twoReg d r fun a b => (a &&& b, logicFlags s.sreg (a &&& b)))

/-- ANDI (40_arithmetic_logic.md R172). -/
def execAndi (d : Reg) (K : Byte) (s : State) : StepOutcome :=
  finish (s.oneReg d fun a => (a &&& K, logicFlags s.sreg (a &&& K)))

/-- OR (40_arithmetic_logic.md R173). -/
def execOr (d r : Reg) (s : State) : StepOutcome :=
  finish (s.twoReg d r fun a b => (a ||| b, logicFlags s.sreg (a ||| b)))

/-- ORI (40_arithmetic_logic.md R174). -/
def execOri (d : Reg) (K : Byte) (s : State) : StepOutcome :=
  finish (s.oneReg d fun a => (a ||| K, logicFlags s.sreg (a ||| K)))

/-- EOR; with `d = r` its result and flags are those of CLR (40_arithmetic_logic.md R175). -/
def execEor (d r : Reg) (s : State) : StepOutcome :=
  finish (s.twoReg d r fun a b => (a ^^^ b, logicFlags s.sreg (a ^^^ b)))

/-- COM: 0xFF - Rd, C set (40_arithmetic_logic.md R176). -/
def execCom (d : Reg) (s : State) : StepOutcome :=
  finish (s.oneReg d fun a => (0xFF#8 - a, comFlags s.sreg (0xFF#8 - a)))

/-- NEG: 0x00 - Rd (40_arithmetic_logic.md R177). -/
def execNeg (d : Reg) (s : State) : StepOutcome :=
  finish (s.oneReg d fun a => (0x00#8 - a, negFlags s.sreg a (0x00#8 - a)))

/-- SBR: ORI under another name (40_arithmetic_logic.md R178). -/
def execSbr (d : Reg) (K : Byte) (s : State) : StepOutcome :=
  finish (s.oneReg d fun a => (a ||| K, logicFlags s.sreg (a ||| K)))

/-- CBR: AND with 0xFF - K (40_arithmetic_logic.md R179). -/
def execCbr (d : Reg) (K : Byte) (s : State) : StepOutcome :=
  finish (s.oneReg d fun a => (a &&& (0xFF#8 - K), logicFlags s.sreg (a &&& (0xFF#8 - K))))

/-- INC: C and H stay (40_arithmetic_logic.md R180). -/
def execInc (d : Reg) (s : State) : StepOutcome :=
  finish (s.oneReg d fun a => (a + 1#8, incFlags s.sreg (a + 1#8)))

/-- DEC: C and H stay (40_arithmetic_logic.md R181). -/
def execDec (d : Reg) (s : State) : StepOutcome :=
  finish (s.oneReg d fun a => (a - 1#8, decFlags s.sreg (a - 1#8)))

/-- TST: Rd is read and written back with the same value (40_arithmetic_logic.md R182). -/
def execTst (d : Reg) (s : State) : StepOutcome :=
  finish (s.oneReg d fun a => (a &&& a, logicFlags s.sreg (a &&& a)))

/-- CLR: Rd is not read; S, V and N are cleared, Z is set (40_arithmetic_logic.md R183). -/
def execClr (d : Reg) (s : State) : StepOutcome :=
  finish do
    let s ← s.writeReg d 0x00#8
    pure ((s.setSreg { s.sreg with s := false, v := false, n := false, z := true }).advance 1)

/-- SER: Rd is not read, no flag changes (40_arithmetic_logic.md R184). -/
def execSer (d : Reg) (s : State) : StepOutcome :=
  finish do
    let s ← s.writeReg d 0xFF#8
    pure (s.advance 1)

end Sys2Proof.Machine
end

