-- ==== Sys2Proof/Machine/BitOps.lean ====
section
/-! DEFINITION. Bit and bit-test instructions (45_bit_and_bit_test.md). -/

namespace Sys2Proof.Machine

/-- LSL (45_bit_and_bit_test.md R360). -/
def execLsl (d : Reg) (s : State) : StepOutcome :=
  finish (s.oneReg d fun v => (v <<< 1, shiftLeftFlags s.sreg v (v <<< 1)))

/-- LSR: N comes out 0 (45_bit_and_bit_test.md R361). -/
def execLsr (d : Reg) (s : State) : StepOutcome :=
  finish (s.oneReg d fun v => (v >>> 1, shiftRightFlags s.sreg (v >>> 1) (v.getLsbD 0)))

/-- ROL: the old C goes into bit 0 (45_bit_and_bit_test.md R362). -/
def execRol (d : Reg) (s : State) : StepOutcome :=
  finish (s.oneReg d fun v =>
    ((v <<< 1) ||| carryIn s.sreg.c, shiftLeftFlags s.sreg v ((v <<< 1) ||| carryIn s.sreg.c)))

/-- ROR: the old C goes into bit 7 (45_bit_and_bit_test.md R363). -/
def execRor (d : Reg) (s : State) : StepOutcome :=
  finish (s.oneReg d fun v =>
    ((carryIn s.sreg.c <<< 7) ||| (v >>> 1),
      shiftRightFlags s.sreg ((carryIn s.sreg.c <<< 7) ||| (v >>> 1)) (v.getLsbD 0)))

/-- ASR: bit 7 is kept (45_bit_and_bit_test.md R364). -/
def execAsr (d : Reg) (s : State) : StepOutcome :=
  finish (s.oneReg d fun v =>
    ((v &&& 0x80#8) ||| (v >>> 1), shiftRightFlags s.sreg ((v &&& 0x80#8) ||| (v >>> 1)) (v.getLsbD 0)))

/-- SWAP: no flag changes (45_bit_and_bit_test.md R365). -/
def execSwap (d : Reg) (s : State) : StepOutcome :=
  finish (s.oneReg d fun v => ((v <<< 4) ||| (v >>> 4), s.sreg))

/-- SBI (45_bit_and_bit_test.md R366). -/
def execSbi (A : BitVec 5) (b : Bit) (s : State) : StepOutcome :=
  finish do
    let s ← s.ioBitWrite A.toNat b true
    pure (s.advance 1)

/-- CBI (45_bit_and_bit_test.md R367). -/
def execCbi (A : BitVec 5) (b : Bit) (s : State) : StepOutcome :=
  finish do
    let s ← s.ioBitWrite A.toNat b false
    pure (s.advance 1)

/-- BST (45_bit_and_bit_test.md R368). -/
def execBst (d : Reg) (b : Bit) (s : State) : StepOutcome :=
  finish (s.testOne d fun v => { s.sreg with t := v.getLsbD b.val })

/-- BLD: the other seven bits are kept (45_bit_and_bit_test.md R369). -/
def execBld (d : Reg) (b : Bit) (s : State) : StepOutcome :=
  finish (s.oneReg d fun v => (withBit v b s.sreg.t, s.sreg))

/-- BSET: the word with `s = 7` is SEI and sets the latch (45_bit_and_bit_test.md R370). -/
def execBset (s0 : Bit) (s : State) : StepOutcome :=
  finish (.ok (((s.setSreg (s.sreg.withBit s0 true)).setIrqInhibit (s.irqInhibit || decide (s0 = 7))).advance 1))

/-- BCLR (45_bit_and_bit_test.md R371). -/
def execBclr (s0 : Bit) (s : State) : StepOutcome :=
  finish (.ok ((s.setSreg (s.sreg.withBit s0 false)).advance 1))

/-- SEC: C is set (45_bit_and_bit_test.md R372). -/
def execSec (s : State) : StepOutcome :=
  finish (.ok ((s.setSreg { s.sreg with c := true }).advance 1))

/-- CLC: C is cleared (45_bit_and_bit_test.md R373). -/
def execClc (s : State) : StepOutcome :=
  finish (.ok ((s.setSreg { s.sreg with c := false }).advance 1))

/-- SEN: N is set (45_bit_and_bit_test.md R374). -/
def execSen (s : State) : StepOutcome :=
  finish (.ok ((s.setSreg { s.sreg with n := true }).advance 1))

/-- CLN: N is cleared (45_bit_and_bit_test.md R375). -/
def execCln (s : State) : StepOutcome :=
  finish (.ok ((s.setSreg { s.sreg with n := false }).advance 1))

/-- SEZ: Z is set (45_bit_and_bit_test.md R376). -/
def execSez (s : State) : StepOutcome :=
  finish (.ok ((s.setSreg { s.sreg with z := true }).advance 1))

/-- CLZ: Z is cleared (45_bit_and_bit_test.md R377). -/
def execClz (s : State) : StepOutcome :=
  finish (.ok ((s.setSreg { s.sreg with z := false }).advance 1))

/-- SEI: I and the latch are set (45_bit_and_bit_test.md R378). -/
def execSei (s : State) : StepOutcome :=
  finish (.ok (((s.setSreg { s.sreg with i := true }).setIrqInhibit true).advance 1))

/-- CLI: I is cleared (45_bit_and_bit_test.md R379). -/
def execCli (s : State) : StepOutcome :=
  finish (.ok ((s.setSreg { s.sreg with i := false }).advance 1))

/-- SES: S is set (45_bit_and_bit_test.md R380). -/
def execSes (s : State) : StepOutcome :=
  finish (.ok ((s.setSreg { s.sreg with s := true }).advance 1))

/-- CLS: S is cleared (45_bit_and_bit_test.md R381). -/
def execCls (s : State) : StepOutcome :=
  finish (.ok ((s.setSreg { s.sreg with s := false }).advance 1))

/-- SEV: V is set (45_bit_and_bit_test.md R382). -/
def execSev (s : State) : StepOutcome :=
  finish (.ok ((s.setSreg { s.sreg with v := true }).advance 1))

/-- CLV: V is cleared (45_bit_and_bit_test.md R383). -/
def execClv (s : State) : StepOutcome :=
  finish (.ok ((s.setSreg { s.sreg with v := false }).advance 1))

/-- SET: T is set (45_bit_and_bit_test.md R384). -/
def execSet (s : State) : StepOutcome :=
  finish (.ok ((s.setSreg { s.sreg with t := true }).advance 1))

/-- CLT: T is cleared (45_bit_and_bit_test.md R385). -/
def execClt (s : State) : StepOutcome :=
  finish (.ok ((s.setSreg { s.sreg with t := false }).advance 1))

/-- SEH: H is set (45_bit_and_bit_test.md R386). -/
def execSeh (s : State) : StepOutcome :=
  finish (.ok ((s.setSreg { s.sreg with h := true }).advance 1))

/-- CLH: H is cleared (45_bit_and_bit_test.md R387). -/
def execClh (s : State) : StepOutcome :=
  finish (.ok ((s.setSreg { s.sreg with h := false }).advance 1))

end Sys2Proof.Machine
end

