-- ==== Sys2Proof/Machine/Control.lean ====
section
/-! DEFINITION. MCU control instructions (46_mcu_control.md). -/

namespace Sys2Proof.Machine

/-- BREAK: the Stopped state where the debug system is enabled, else no effect (46_mcu_control.md R410). -/
def execBreak (s : State) : StepOutcome :=
  finish (.ok ((s.advance 1).setMode (if s.cfg.ocdEnabled then .stopped else s.mode)))

/-- NOP (46_mcu_control.md R411). -/
def execNop (s : State) : StepOutcome :=
  finish (.ok (s.advance 1))

/-- SLEEP (46_mcu_control.md R412; log 19). -/
def execSleep (s : State) : StepOutcome :=
  finish (.ok ((s.advance 1).setMode .sleeping))

/-- WDR: an event for the platform (46_mcu_control.md R413; log 20). -/
def execWdr (s : State) : StepOutcome :=
  finish (.ok ((s.record .watchdogRestart).advance 1))

end Sys2Proof.Machine
end

