-- ==== Sys2Proof/Machine/Flow.lean ====
section
/-! DEFINITION. Change of flow instructions: jumps, calls, returns, skips, compares, branches (42_change_of_flow.md). -/

namespace Sys2Proof.Machine

/-- RJMP: `pc + k + 1`, `k` signed (42_change_of_flow.md R220). -/
def execRjmp (k : BitVec 12) (s : State) : StepOutcome :=
  finish (.ok (s.jumpRelative k.toInt))

/-- IJMP: Z as a word address; the bits of the Program Counter above 15 become 0 (42_change_of_flow.md R221). -/
def execIjmp (s : State) : StepOutcome :=
  finish (.ok (s.setPc (s.zWord : Int)))

/-- EIJMP: EIND:Z, reduced to PC_BITS (42_change_of_flow.md R222). -/
def execEijmp (s : State) : StepOutcome :=
  finish (.ok (s.setPc ((s.eind.toNat * 65536 + s.zWord : Nat) : Int)))

/-- JMP (42_change_of_flow.md R223; target reduced to PC_BITS, log 13). -/
def execJmp (k : PcWord) (s : State) : StepOutcome :=
  finish (.ok (s.setPc (k.toNat : Int)))

/-- RCALL (42_change_of_flow.md R225). -/
def execRcall (k : BitVec 12) (s : State) : StepOutcome :=
  finish do
    let s ← s.pushReturn (s.pc.toNat + 1)
    pure (s.jumpRelative k.toInt)

/-- ICALL: Z is read before anything is written (42_change_of_flow.md R226). -/
def execIcall (s : State) : StepOutcome :=
  finish do
    let t := s.zWord
    let s ← s.pushReturn (s.pc.toNat + 1)
    pure (s.setPc (t : Int))

/-- EICALL: EIND:Z is read before anything is written (42_change_of_flow.md R227). -/
def execEicall (s : State) : StepOutcome :=
  finish do
    let t := s.eind.toNat * 65536 + s.zWord
    let s ← s.pushReturn (s.pc.toNat + 1)
    pure (s.setPc (t : Int))

/-- CALL: the return address is that of the word after the two (42_change_of_flow.md R228; target reduced to PC_BITS, log 13). -/
def execCall (k : PcWord) (s : State) : StepOutcome :=
  finish do
    let s ← s.pushReturn (s.pc.toNat + 2)
    pure (s.setPc (k.toNat : Int))

/-- RET (42_change_of_flow.md R230). -/
def execRet (s : State) : StepOutcome :=
  finish do
    let (a, s) ← s.popReturn
    pure (s.setPc (a : Int))

/-- RETI (42_change_of_flow.md R231). -/
def execReti (s : State) : StepOutcome :=
  finish s.interruptReturn

/-- CPSE: both registers are read; no flag changes (42_change_of_flow.md R233). -/
def execCpse (d r : Reg) (s : State) : StepOutcome :=
  finish do
    let a ← s.readReg d
    let b ← s.readReg r
    s.skip (decide (a = b))

/-- CP (42_change_of_flow.md R234). -/
def execCp (d r : Reg) (s : State) : StepOutcome :=
  finish (s.testTwo d r fun a b => (subFlags s.sreg a b false false).2)

/-- CPC: Z keeps its value when the result is zero (42_change_of_flow.md R235). -/
def execCpc (d r : Reg) (s : State) : StepOutcome :=
  finish (s.testTwo d r fun a b => (subFlags s.sreg a b s.sreg.c true).2)

/-- CPI (42_change_of_flow.md R236). -/
def execCpi (d : Reg) (K : Byte) (s : State) : StepOutcome :=
  finish (s.testOne d fun a => (subFlags s.sreg a K false false).2)

/-- SBRC (42_change_of_flow.md R237). -/
def execSbrc (r : Reg) (b : Bit) (s : State) : StepOutcome :=
  finish do
    let v ← s.readReg r
    s.skip (!v.getLsbD b.val)

/-- SBRS (42_change_of_flow.md R238). -/
def execSbrs (r : Reg) (b : Bit) (s : State) : StepOutcome :=
  finish do
    let v ← s.readReg r
    s.skip (v.getLsbD b.val)

/-- SBIC: one read of the I/O location, whether or not the skip is taken (42_change_of_flow.md R239). -/
def execSbic (A : BitVec 5) (b : Bit) (s : State) : StepOutcome :=
  finish do
    let (x, s) ← s.ioBitRead A.toNat b
    s.skip (!x)

/-- SBIS: one read of the I/O location, whether or not the skip is taken (42_change_of_flow.md R240). -/
def execSbis (A : BitVec 5) (b : Bit) (s : State) : StepOutcome :=
  finish do
    let (x, s) ← s.ioBitRead A.toNat b
    s.skip x

/-- BRBS (42_change_of_flow.md R242). -/
def execBrbs (s0 : Bit) (k : BitVec 7) (s : State) : StepOutcome :=
  finish (.ok (s.branch (s.sreg.bit s0) k))

/-- BRBC (42_change_of_flow.md R243). -/
def execBrbc (s0 : Bit) (k : BitVec 7) (s : State) : StepOutcome :=
  finish (.ok (s.branch (!s.sreg.bit s0) k))

/-- BREQ: branch if Z is set (42_change_of_flow.md R244). -/
def execBreq (k : BitVec 7) (s : State) : StepOutcome :=
  finish (.ok (s.branch s.sreg.z k))

/-- BRNE: branch if Z is cleared (42_change_of_flow.md R245). -/
def execBrne (k : BitVec 7) (s : State) : StepOutcome :=
  finish (.ok (s.branch (!s.sreg.z) k))

/-- BRCS: branch if C is set (42_change_of_flow.md R246). -/
def execBrcs (k : BitVec 7) (s : State) : StepOutcome :=
  finish (.ok (s.branch s.sreg.c k))

/-- BRCC: branch if C is cleared (42_change_of_flow.md R247). -/
def execBrcc (k : BitVec 7) (s : State) : StepOutcome :=
  finish (.ok (s.branch (!s.sreg.c) k))

/-- BRSH: branch if C is cleared (42_change_of_flow.md R248). -/
def execBrsh (k : BitVec 7) (s : State) : StepOutcome :=
  finish (.ok (s.branch (!s.sreg.c) k))

/-- BRLO: branch if C is set (42_change_of_flow.md R249). -/
def execBrlo (k : BitVec 7) (s : State) : StepOutcome :=
  finish (.ok (s.branch s.sreg.c k))

/-- BRMI: branch if N is set (42_change_of_flow.md R250). -/
def execBrmi (k : BitVec 7) (s : State) : StepOutcome :=
  finish (.ok (s.branch s.sreg.n k))

/-- BRPL: branch if N is cleared (42_change_of_flow.md R251). -/
def execBrpl (k : BitVec 7) (s : State) : StepOutcome :=
  finish (.ok (s.branch (!s.sreg.n) k))

/-- BRGE: branch if S is cleared (42_change_of_flow.md R252). -/
def execBrge (k : BitVec 7) (s : State) : StepOutcome :=
  finish (.ok (s.branch (!s.sreg.s) k))

/-- BRLT: branch if S is set (42_change_of_flow.md R253). -/
def execBrlt (k : BitVec 7) (s : State) : StepOutcome :=
  finish (.ok (s.branch s.sreg.s k))

/-- BRHS: branch if H is set (42_change_of_flow.md R254). -/
def execBrhs (k : BitVec 7) (s : State) : StepOutcome :=
  finish (.ok (s.branch s.sreg.h k))

/-- BRHC: branch if H is cleared (42_change_of_flow.md R255). -/
def execBrhc (k : BitVec 7) (s : State) : StepOutcome :=
  finish (.ok (s.branch (!s.sreg.h) k))

/-- BRTS: branch if T is set (42_change_of_flow.md R256). -/
def execBrts (k : BitVec 7) (s : State) : StepOutcome :=
  finish (.ok (s.branch s.sreg.t k))

/-- BRTC: branch if T is cleared (42_change_of_flow.md R257). -/
def execBrtc (k : BitVec 7) (s : State) : StepOutcome :=
  finish (.ok (s.branch (!s.sreg.t) k))

/-- BRVS: branch if V is set (42_change_of_flow.md R258). -/
def execBrvs (k : BitVec 7) (s : State) : StepOutcome :=
  finish (.ok (s.branch s.sreg.v k))

/-- BRVC: branch if V is cleared (42_change_of_flow.md R259). -/
def execBrvc (k : BitVec 7) (s : State) : StepOutcome :=
  finish (.ok (s.branch (!s.sreg.v) k))

/-- BRIE: branch if I is set (42_change_of_flow.md R260). -/
def execBrie (k : BitVec 7) (s : State) : StepOutcome :=
  finish (.ok (s.branch s.sreg.i k))

/-- BRID: branch if I is cleared (42_change_of_flow.md R261). -/
def execBrid (k : BitVec 7) (s : State) : StepOutcome :=
  finish (.ok (s.branch (!s.sreg.i) k))

end Sys2Proof.Machine
end

