-- ==== Sys2Proof/Machine/Multiply.lean ====
section
/-! DEFINITION. The multiply instructions and DES (41_multiply_des.md). -/

namespace Sys2Proof.Machine

/-- MUL: unsigned by unsigned (41_multiply_des.md R200, R207). -/
def execMul (d r : Reg) (s : State) : StepOutcome :=
  finish (s.multiply d r false false false)

/-- MULS: signed by signed (41_multiply_des.md R201, R207). -/
def execMuls (d r : Reg) (s : State) : StepOutcome :=
  finish (s.multiply d r true true false)

/-- MULSU: Rd signed, Rr unsigned (41_multiply_des.md R202, R207). -/
def execMulsu (d r : Reg) (s : State) : StepOutcome :=
  finish (s.multiply d r true false false)

/-- FMUL: unsigned by unsigned, shifted left by one (41_multiply_des.md R203, R207). -/
def execFmul (d r : Reg) (s : State) : StepOutcome :=
  finish (s.multiply d r false false true)

/-- FMULS: signed by signed, shifted left by one (41_multiply_des.md R204, R207). -/
def execFmuls (d r : Reg) (s : State) : StepOutcome :=
  finish (s.multiply d r true true true)

/-- FMULSU: Rd signed, Rr unsigned, shifted left by one (41_multiply_des.md R205, R207). -/
def execFmulsu (d r : Reg) (s : State) : StepOutcome :=
  finish (s.multiply d r true false true)

/-- DES: one round on R7:R0 and R15:R8, H selecting decryption; no flag changes. What the round computes is the free
function `Config.desRound`, under the law of sixteen rounds (41_multiply_des.md R206; log 10). -/
def execDes (K : BitVec 4) (s : State) : StepOutcome :=
  finish do
    let data ← s.readBlock 0 8
    let key ← s.readBlock 8 8
    let out := Config.desRound (BitVec.ofNat 64 data) (BitVec.ofNat 64 key) K s.sreg.h
    let s ← s.writeBlock 0 out.1 8
    let s ← s.writeBlock 8 out.2 8
    pure (s.advance 1)

end Sys2Proof.Machine
end

