-- ==== Sys2Proof/Machine/ProgMem.lean ====
section
/-! DEFINITION. Program memory instructions (44_program_memory.md). -/

namespace Sys2Proof.Machine

/-- `raise Unmodelled(SPM)`: which operation an SPM performs is selected by state the manual does not describe
(44_program_memory.md R347, R351). -/
def State.refuseSpm (_ : State) : Res State := .error (.refused .unmodelledSpm)

/-- LPM: R0 implied, Z is 16 bits whatever the width of data addresses, RAMPZ is not used (44_program_memory.md R340). -/
def execLpm (s : State) : StepOutcome :=
  finish do
    let s ← s.loadProg 0 s.zWord
    pure (s.advance 1)

/-- LPM Rd,Z (44_program_memory.md R341). -/
def execLpmZ (d : Reg) (s : State) : StepOutcome :=
  finish do
    let s ← s.loadProg d s.zWord
    pure (s.advance 1)

/-- LPM Rd,Z+: Z + 1 modulo 2^16, RAMPZ unchanged (44_program_memory.md R342). -/
def execLpmZInc (d : Reg) (s : State) : StepOutcome :=
  finish do
    s.requireDefined (isOwnReg .z d)
    let a := s.zWord
    let s ← s.loadProg d a
    pure ((s.setZWord ((a + 1) % 2 ^ 16)).advance 1)

/-- ELPM: R0 implied (44_program_memory.md R343). -/
def execElpm (s : State) : StepOutcome :=
  finish do
    let s ← s.loadProg 0 s.zExt
    pure (s.advance 1)

/-- ELPM Rd,Z (44_program_memory.md R344). -/
def execElpmZ (d : Reg) (s : State) : StepOutcome :=
  finish do
    let s ← s.loadProg d s.zExt
    pure (s.advance 1)

/-- ELPM Rd,Z+: the whole of RAMPZ:Z is incremented (44_program_memory.md R345). -/
def execElpmZInc (d : Reg) (s : State) : StepOutcome :=
  finish do
    s.requireDefined (isOwnReg .z d)
    let a := s.zExt
    let s ← s.loadProg d a
    pure ((s.setZExt ((a + 1) % 2 ^ zExtBits s.cfg)).advance 1)

/-- SPM: refused, as the rule says (44_program_memory.md R348, R349, R351; safe, log 17). -/
def execSpm (s : State) : StepOutcome :=
  finish (State.refuseSpm s)

/-- SPM Z+: refused, as the rule says (44_program_memory.md R350, R351; safe, log 17). -/
def execSpmZInc (s : State) : StepOutcome :=
  finish (State.refuseSpm s)

end Sys2Proof.Machine
end

