-- ==== Sys2Proof/Machine/Transfer.lean ====
section
/-! DEFINITION. Data transfer instructions (43_data_transfer.md). -/

namespace Sys2Proof.Machine

/-- MOV (43_data_transfer.md R280). -/
def execMov (d r : Reg) (s : State) : StepOutcome :=
  finish do
    let v ← s.readReg r
    let s ← s.writeReg d v
    pure (s.advance 1)

/-- MOVW: both source bytes are read before either destination byte is written (43_data_transfer.md R281). -/
def execMovw (d r : Reg) (s : State) : StepOutcome :=
  finish do
    let v ← s.readPair r
    let s ← s.writePair d v
    pure (s.advance 1)

/-- LDI (43_data_transfer.md R282). -/
def execLdi (d : Reg) (K : Byte) (s : State) : StepOutcome :=
  finish do
    let s ← s.writeReg d K
    pure (s.advance 1)

/-- LDS, two words (43_data_transfer.md R283). -/
def execLds (d : Reg) (k : Word) (s : State) : StepOutcome :=
  finish do
    let s ← s.loadReg d (s.directAddr k)
    pure (s.advance 2)

/-- LDS of AVRrc, one word; RAMPD plays no part (43_data_transfer.md R284). -/
def execLdsRc (d : Reg) (k : BitVec 7) (s : State) : StepOutcome :=
  finish do
    let s ← s.loadReg d (rcAddr k)
    pure (s.advance 1)

/-- LD Rd,X (43_data_transfer.md R286). -/
def execLdX (d : Reg) (s : State) : StepOutcome :=
  finish (s.loadPtr d .x 0)

/-- LD Rd,X+ (43_data_transfer.md R287). -/
def execLdXInc (d : Reg) (s : State) : StepOutcome :=
  finish (s.loadPtrInc d .x)

/-- LD Rd,-X (43_data_transfer.md R288). -/
def execLdXDec (d : Reg) (s : State) : StepOutcome :=
  finish (s.loadPtrDec d .x)

/-- LD Rd,Y (43_data_transfer.md R289). -/
def execLdY (d : Reg) (s : State) : StepOutcome :=
  finish (s.loadPtr d .y 0)

/-- LD Rd,Y+ (43_data_transfer.md R290). -/
def execLdYInc (d : Reg) (s : State) : StepOutcome :=
  finish (s.loadPtrInc d .y)

/-- LD Rd,-Y (43_data_transfer.md R291). -/
def execLdYDec (d : Reg) (s : State) : StepOutcome :=
  finish (s.loadPtrDec d .y)

/-- LDD Rd,Y+q: the pointer is unchanged (43_data_transfer.md R292). -/
def execLddY (d : Reg) (q : BitVec 6) (s : State) : StepOutcome :=
  finish (s.loadPtr d .y q.toNat)

/-- LD Rd,Z (43_data_transfer.md R293). -/
def execLdZ (d : Reg) (s : State) : StepOutcome :=
  finish (s.loadPtr d .z 0)

/-- LD Rd,Z+ (43_data_transfer.md R294). -/
def execLdZInc (d : Reg) (s : State) : StepOutcome :=
  finish (s.loadPtrInc d .z)

/-- LD Rd,-Z (43_data_transfer.md R295). -/
def execLdZDec (d : Reg) (s : State) : StepOutcome :=
  finish (s.loadPtrDec d .z)

/-- LDD Rd,Z+q: the pointer is unchanged (43_data_transfer.md R296). -/
def execLddZ (d : Reg) (q : BitVec 6) (s : State) : StepOutcome :=
  finish (s.loadPtr d .z q.toNat)

/-- STS, two words (43_data_transfer.md R298). -/
def execSts (k : Word) (r : Reg) (s : State) : StepOutcome :=
  finish do
    let s ← s.storeReg r (s.directAddr k)
    pure (s.advance 2)

/-- STS of AVRrc, one word (43_data_transfer.md R299). -/
def execStsRc (k : BitVec 7) (r : Reg) (s : State) : StepOutcome :=
  finish do
    let s ← s.storeReg r (rcAddr k)
    pure (s.advance 1)

/-- ST X,Rr (43_data_transfer.md R300). -/
def execStX (r : Reg) (s : State) : StepOutcome :=
  finish (s.storePtr r .x 0)

/-- ST X+,Rr (43_data_transfer.md R301). -/
def execStXInc (r : Reg) (s : State) : StepOutcome :=
  finish (s.storePtrInc r .x)

/-- ST -X,Rr (43_data_transfer.md R302). -/
def execStXDec (r : Reg) (s : State) : StepOutcome :=
  finish (s.storePtrDec r .x)

/-- ST Y,Rr (43_data_transfer.md R303). -/
def execStY (r : Reg) (s : State) : StepOutcome :=
  finish (s.storePtr r .y 0)

/-- ST Y+,Rr (43_data_transfer.md R304). -/
def execStYInc (r : Reg) (s : State) : StepOutcome :=
  finish (s.storePtrInc r .y)

/-- ST -Y,Rr (43_data_transfer.md R305). -/
def execStYDec (r : Reg) (s : State) : StepOutcome :=
  finish (s.storePtrDec r .y)

/-- STD Y+q,Rr: the pointer is unchanged (43_data_transfer.md R306). -/
def execStdY (q : BitVec 6) (r : Reg) (s : State) : StepOutcome :=
  finish (s.storePtr r .y q.toNat)

/-- ST Z,Rr (43_data_transfer.md R307). -/
def execStZ (r : Reg) (s : State) : StepOutcome :=
  finish (s.storePtr r .z 0)

/-- ST Z+,Rr (43_data_transfer.md R308). -/
def execStZInc (r : Reg) (s : State) : StepOutcome :=
  finish (s.storePtrInc r .z)

/-- ST -Z,Rr (43_data_transfer.md R309). -/
def execStZDec (r : Reg) (s : State) : StepOutcome :=
  finish (s.storePtrDec r .z)

/-- STD Z+q,Rr: the pointer is unchanged (43_data_transfer.md R310). -/
def execStdZ (q : BitVec 6) (r : Reg) (s : State) : StepOutcome :=
  finish (s.storePtr r .z q.toNat)

/-- IN: A is an I/O address, `DS_MAP` plays no part (43_data_transfer.md R311). -/
def execIn (d : Reg) (A : BitVec 6) (s : State) : StepOutcome :=
  finish do
    let (v, s) ← s.ioRead A.toNat
    let s ← s.writeReg d v
    pure (s.advance 1)

/-- OUT (43_data_transfer.md R312). -/
def execOut (A : BitVec 6) (r : Reg) (s : State) : StepOutcome :=
  finish do
    let v ← s.readReg r
    let s ← s.ioWrite A.toNat v
    pure (s.advance 1)

/-- PUSH (43_data_transfer.md R313). -/
def execPush (r : Reg) (s : State) : StepOutcome :=
  finish do
    let v ← s.readReg r
    let s ← s.push v
    pure (s.advance 1)

/-- POP (43_data_transfer.md R314). -/
def execPop (d : Reg) (s : State) : StepOutcome :=
  finish do
    let (v, s) ← s.pop
    let s ← s.writeReg d v
    pure (s.advance 1)

/-- XCH: the register's byte is stored (43_data_transfer.md R315, R319). -/
def execXch (d : Reg) (s : State) : StepOutcome :=
  finish (s.readModifyWrite d fun _ reg => reg)

/-- LAS: the register's bits are set in memory (43_data_transfer.md R316, R319). -/
def execLas (d : Reg) (s : State) : StepOutcome :=
  finish (s.readModifyWrite d fun old reg => old ||| reg)

/-- LAC: the register's bits are cleared in memory (43_data_transfer.md R317, R319). -/
def execLac (d : Reg) (s : State) : StepOutcome :=
  finish (s.readModifyWrite d fun old reg => old &&& (0xFF#8 - reg))

/-- LAT: the register's bits are toggled in memory (43_data_transfer.md R318, R319). -/
def execLat (d : Reg) (s : State) : StepOutcome :=
  finish (s.readModifyWrite d fun old reg => old ^^^ reg)

end Sys2Proof.Machine
end

