-- ==== Sys2Proof/Decode.lean ====
section
/-! DEFINITION. The decoder, from words and from bytes, total on both and rejecting by name, and the encoder
(30_encoding.md R120 to R132). The order of bits inside a field and the offsets of the short register fields are the
spec's general knowledge (R122 to R125; PRESUMED, unsafe, log 12). -/

namespace Sys2Proof

/-- Why bytes are not read as an instruction. Both are safe: the machine stops with a fault of its own. -/
inductive DecodeReject where
  /-- The first word matches no row of the opcode table (30_encoding.md R132). -/
  | illegal (word : Word)
  /-- The bytes end inside the instruction. -/
  | truncated
  deriving DecidableEq, Repr

/-! ### Operand fields -/

/-- `INST[hi:lo]` as a number (30_encoding.md R120). -/
def field (w : Word) (hi lo : Nat) : Nat := w.toNat / 2 ^ lo % 2 ^ (hi + 1 - lo)

/-- The five-bit field `INST[8:4]`: R0 to R31 (30_encoding.md R122). -/
def regD (w : Word) : Reg := Fin.ofNat 32 (field w 8 4)

/-- The five-bit field `INST[9]:INST[3:0]`: R0 to R31 (30_encoding.md R122). -/
def regR (w : Word) : Reg := Fin.ofNat 32 (field w 9 9 * 16 + field w 3 0)

/-- The four-bit field `INST[7:4]`: R16 to R31 (30_encoding.md R123). -/
def upperD (w : Word) : Reg := Fin.ofNat 32 (16 + field w 7 4)

/-- The four-bit field `INST[3:0]`: R16 to R31 (30_encoding.md R123). -/
def upperR (w : Word) : Reg := Fin.ofNat 32 (16 + field w 3 0)

/-- The three-bit field `INST[6:4]`: R16 to R23 (30_encoding.md R124). -/
def mulD (w : Word) : Reg := Fin.ofNat 32 (16 + field w 6 4)

/-- The three-bit field `INST[2:0]`: R16 to R23 (30_encoding.md R124). -/
def mulR (w : Word) : Reg := Fin.ofNat 32 (16 + field w 2 0)

/-- The pair field `INST[7:4]` of MOVW: the register number halved (30_encoding.md R125). -/
def pairD (w : Word) : Reg := Fin.ofNat 32 (2 * field w 7 4)

/-- The pair field `INST[3:0]` of MOVW: the register number halved (30_encoding.md R125). -/
def pairR (w : Word) : Reg := Fin.ofNat 32 (2 * field w 3 0)

/-- The pair field `INST[5:4]` of ADIW and SBIW: R24, R26, R28, R30 (30_encoding.md R125). -/
def wordPairD (w : Word) : Reg := Fin.ofNat 32 (24 + 2 * field w 5 4)

/-- The constant `INST[7:6]:INST[3:0]` of ADIW and SBIW (30_encoding.md R125). -/
def constK6 (w : Word) : BitVec 6 := BitVec.ofNat 6 (field w 7 6 * 16 + field w 3 0)

/-- The constant `INST[11:8]:INST[3:0]` (30_encoding.md R123). -/
def constK8 (w : Word) : Byte := BitVec.ofNat 8 (field w 11 8 * 16 + field w 3 0)

/-- The round number `INST[7:4]` of DES (30_encoding.md R126). -/
def roundK (w : Word) : BitVec 4 := BitVec.ofNat 4 (field w 7 4)

/-- The I/O address `INST[10:9]:INST[3:0]` (30_encoding.md R126). -/
def ioA6 (w : Word) : BitVec 6 := BitVec.ofNat 6 (field w 10 9 * 16 + field w 3 0)

/-- The I/O address `INST[7:3]` (30_encoding.md R126). -/
def ioA5 (w : Word) : BitVec 5 := BitVec.ofNat 5 (field w 7 3)

/-- The bit number `INST[2:0]`, also the SREG bit number of a branch (30_encoding.md R126). -/
def bitLow (w : Word) : Bit := Fin.ofNat 8 (field w 2 0)

/-- The SREG bit number `INST[6:4]` of BSET and BCLR (30_encoding.md R126). -/
def bitMid (w : Word) : Bit := Fin.ofNat 8 (field w 6 4)

/-- The branch offset `INST[9:3]` (30_encoding.md R126, R127). -/
def offset7 (w : Word) : BitVec 7 := BitVec.ofNat 7 (field w 9 3)

/-- The jump offset `INST[11:0]` (30_encoding.md R126, R127). -/
def offset12 (w : Word) : BitVec 12 := BitVec.ofNat 12 (field w 11 0)

/-- The word address `INST[8:4]:INST[0]:WORD2` of JMP and CALL (30_encoding.md R126). -/
def target22 (w0 w1 : Word) : PcWord :=
  BitVec.ofNat 22 ((field w0 8 4 * 2 + field w0 0 0) * 65536 + w1.toNat)

/-- The displacement `INST[13]:INST[11:10]:INST[2:0]` (30_encoding.md R126). -/
def disp6 (w : Word) : BitVec 6 := BitVec.ofNat 6 (field w 13 13 * 32 + field w 11 10 * 8 + field w 2 0)

/-- The seven bits `INST[10:8]:INST[3:0]` of the one-word LDS and STS (30_encoding.md R126, R131). -/
def addr7 (w : Word) : BitVec 7 := BitVec.ofNat 7 (field w 10 8 * 16 + field w 3 0)

/-! ### The opcode map -/

/-- Words `0000 ...` (30_encoding.md R129). -/
def decodeGroup0 (w : Word) : Except DecodeReject Instr :=
  match field w 11 8 with
  | 0 => if w = 0#16 then .ok .nop else .error (.illegal w)
  | 1 => .ok (.movw (pairD w) (pairR w))
  | 2 => .ok (.muls (upperD w) (upperR w))
  | 3 =>
    match field w 7 7, field w 3 3 with
    | 0, 0 => .ok (.mulsu (mulD w) (mulR w))
    | 0, _ => .ok (.fmul (mulD w) (mulR w))
    | _, 0 => .ok (.fmuls (mulD w) (mulR w))
    | _, _ => .ok (.fmulsu (mulD w) (mulR w))
  | 4 | 5 | 6 | 7 => .ok (.cpc (regD w) (regR w))
  | 8 | 9 | 10 | 11 => .ok (.sbc (regD w) (regR w))
  | _ => .ok (.add (regD w) (regR w))

/-- Words `0001 ...` (30_encoding.md R129). -/
def decodeGroup1 (w : Word) : Except DecodeReject Instr :=
  match field w 11 10 with
  | 0 => .ok (.cpse (regD w) (regR w))
  | 1 => .ok (.cp (regD w) (regR w))
  | 2 => .ok (.sub (regD w) (regR w))
  | _ => .ok (.adc (regD w) (regR w))

/-- Words `0010 ...` (30_encoding.md R129). -/
def decodeGroup2 (w : Word) : Except DecodeReject Instr :=
  match field w 11 10 with
  | 0 => .ok (.and (regD w) (regR w))
  | 1 => .ok (.eor (regD w) (regR w))
  | 2 => .ok (.or (regD w) (regR w))
  | _ => .ok (.mov (regD w) (regR w))

/-- Words `10q0 ...`: loads and stores through Y and Z, the forms without displacement first (30_encoding.md R128
step 3, R129). -/
def decodeDisplaced (w : Word) : Except DecodeReject Instr :=
  match field w 9 9, field w 3 3 with
  | 0, 0 => if disp6 w = 0#6 then .ok (.ldZ (regD w)) else .ok (.lddZ (regD w) (disp6 w))
  | 0, _ => if disp6 w = 0#6 then .ok (.ldY (regD w)) else .ok (.lddY (regD w) (disp6 w))
  | _, 0 => if disp6 w = 0#6 then .ok (.stZ (regD w)) else .ok (.stdZ (disp6 w) (regD w))
  | _, _ => if disp6 w = 0#6 then .ok (.stY (regD w)) else .ok (.stdY (disp6 w) (regD w))

/-- Words `1010 ...`: the one-word LDS and STS on AVRrc, displaced loads and stores elsewhere (30_encoding.md R128
step 2, R131). -/
def decodeGroup10 (c : Cpu) (w : Word) : Except DecodeReject Instr :=
  if c = .avrRc then
    match field w 11 11 with
    | 0 => .ok (.ldsRc (upperD w) (addr7 w))
    | _ => .ok (.stsRc (addr7 w) (upperD w))
  else decodeDisplaced w

/-- Words `1001 000d dddd nnnn` (30_encoding.md R130 table (a)). -/
def decodeLoads (w w1 : Word) : Except DecodeReject Instr :=
  match field w 3 0 with
  | 0 => .ok (.lds (regD w) w1)
  | 1 => .ok (.ldZInc (regD w))
  | 2 => .ok (.ldZDec (regD w))
  | 4 => .ok (.lpmZ (regD w))
  | 5 => .ok (.lpmZInc (regD w))
  | 6 => .ok (.elpmZ (regD w))
  | 7 => .ok (.elpmZInc (regD w))
  | 9 => .ok (.ldYInc (regD w))
  | 10 => .ok (.ldYDec (regD w))
  | 12 => .ok (.ldX (regD w))
  | 13 => .ok (.ldXInc (regD w))
  | 14 => .ok (.ldXDec (regD w))
  | 15 => .ok (.pop (regD w))
  | _ => .error (.illegal w)

/-- Words `1001 001r rrrr nnnn` (30_encoding.md R130 table (b)). -/
def decodeStores (w w1 : Word) : Except DecodeReject Instr :=
  match field w 3 0 with
  | 0 => .ok (.sts w1 (regD w))
  | 1 => .ok (.stZInc (regD w))
  | 2 => .ok (.stZDec (regD w))
  | 4 => .ok (.xch (regD w))
  | 5 => .ok (.las (regD w))
  | 6 => .ok (.lac (regD w))
  | 7 => .ok (.lat (regD w))
  | 9 => .ok (.stYInc (regD w))
  | 10 => .ok (.stYDec (regD w))
  | 12 => .ok (.stX (regD w))
  | 13 => .ok (.stXInc (regD w))
  | 14 => .ok (.stXDec (regD w))
  | 15 => .ok (.push (regD w))
  | _ => .error (.illegal w)

/-- Words `1001 010x xxxx 1000`, by `INST[8:4]` (30_encoding.md R130 table (d)). -/
def decodeImplied (w : Word) : Except DecodeReject Instr :=
  match field w 8 7 with
  | 0 => .ok (.bset (bitMid w))
  | 1 => .ok (.bclr (bitMid w))
  | _ =>
    match field w 7 4 with
    | 0 => .ok .ret
    | 1 => .ok .reti
    | 8 => .ok .sleep
    | 9 => .ok .break_
    | 10 => .ok .wdr
    | 12 => .ok .lpm
    | 13 => .ok .elpm
    | 14 => .ok .spm
    | 15 => .ok .spmZInc
    | _ => .error (.illegal w)

/-- Words `1001 010x xxxx 1001`, by `INST[8:4]` (30_encoding.md R130 table (c)). -/
def decodeIndirect (w : Word) : Except DecodeReject Instr :=
  match field w 8 4 with
  | 0 => .ok .ijmp
  | 1 => .ok .eijmp
  | 16 => .ok .icall
  | 17 => .ok .eicall
  | _ => .error (.illegal w)

/-- Words `1001 010d dddd nnnn` (30_encoding.md R130 table (c)). -/
def decodeOneOperand (w w1 : Word) : Except DecodeReject Instr :=
  match field w 3 0 with
  | 0 => .ok (.com (regD w))
  | 1 => .ok (.neg (regD w))
  | 2 => .ok (.swap (regD w))
  | 3 => .ok (.inc (regD w))
  | 5 => .ok (.asr (regD w))
  | 6 => .ok (.lsr (regD w))
  | 7 => .ok (.ror (regD w))
  | 8 => decodeImplied w
  | 9 => decodeIndirect w
  | 10 => .ok (.dec (regD w))
  | 11 => if field w 8 8 = 0 then .ok (.des (roundK w)) else .error (.illegal w)
  | 12 | 13 => .ok (.jmp (target22 w w1))
  | 14 | 15 => .ok (.call (target22 w w1))
  | _ => .error (.illegal w)

/-- Words `1001 ...` (30_encoding.md R129). -/
def decodeGroup9 (w w1 : Word) : Except DecodeReject Instr :=
  match field w 11 8 with
  | 0 | 1 => decodeLoads w w1
  | 2 | 3 => decodeStores w w1
  | 4 | 5 => decodeOneOperand w w1
  | 6 => .ok (.adiw (wordPairD w) (constK6 w))
  | 7 => .ok (.sbiw (wordPairD w) (constK6 w))
  | 8 => .ok (.cbi (ioA5 w) (bitLow w))
  | 9 => .ok (.sbic (ioA5 w) (bitLow w))
  | 10 => .ok (.sbi (ioA5 w) (bitLow w))
  | 11 => .ok (.sbis (ioA5 w) (bitLow w))
  | _ => .ok (.mul (regD w) (regR w))

/-- Words `1011 ...` (30_encoding.md R129). -/
def decodeGroup11 (w : Word) : Except DecodeReject Instr :=
  match field w 11 11 with
  | 0 => .ok (.in_ (regD w) (ioA6 w))
  | _ => .ok (.out (ioA6 w) (regD w))

/-- Words `1111 ...` (30_encoding.md R129). -/
def decodeGroup15 (w : Word) : Except DecodeReject Instr :=
  match field w 11 10 with
  | 0 => .ok (.brbs (bitLow w) (offset7 w))
  | 1 => .ok (.brbc (bitLow w) (offset7 w))
  | _ =>
    if field w 3 3 = 0 then
      match field w 10 9 with
      | 0 => .ok (.bld (regD w) (bitLow w))
      | 1 => .ok (.bst (regD w) (bitLow w))
      | 2 => .ok (.sbrc (regD w) (bitLow w))
      | _ => .ok (.sbrs (regD w) (bitLow w))
    else .error (.illegal w)

/-- The opcode lookup for a CPU version (30_encoding.md R128): names of other instructions' words are left out, so a word
decodes to its base instruction. `w1` is the second word, used by the two-word instructions alone. -/
def decodeWords (c : Cpu) (w w1 : Word) : Except DecodeReject Instr :=
  match field w 15 12 with
  | 0 => decodeGroup0 w
  | 1 => decodeGroup1 w
  | 2 => decodeGroup2 w
  | 3 => .ok (.cpi (upperD w) (constK8 w))
  | 4 => .ok (.sbci (upperD w) (constK8 w))
  | 5 => .ok (.subi (upperD w) (constK8 w))
  | 6 => .ok (.ori (upperD w) (constK8 w))
  | 7 => .ok (.andi (upperD w) (constK8 w))
  | 8 => decodeDisplaced w
  | 9 => decodeGroup9 w w1
  | 10 => decodeGroup10 c w
  | 11 => decodeGroup11 w
  | 12 => .ok (.rjmp (offset12 w))
  | 13 => .ok (.rcall (offset12 w))
  | 14 => .ok (.ldi (upperD w) (constK8 w))
  | _ => decodeGroup15 w

/-- The number of words of an instruction (30_encoding.md R120). -/
def Instr.words : Instr → Nat
  | .add _ _ => 1
  | .adc _ _ => 1
  | .adiw _ _ => 1
  | .sub _ _ => 1
  | .subi _ _ => 1
  | .sbc _ _ => 1
  | .sbci _ _ => 1
  | .sbiw _ _ => 1
  | .and _ _ => 1
  | .andi _ _ => 1
  | .or _ _ => 1
  | .ori _ _ => 1
  | .eor _ _ => 1
  | .com _ => 1
  | .neg _ => 1
  | .sbr _ _ => 1
  | .cbr _ _ => 1
  | .inc _ => 1
  | .dec _ => 1
  | .tst _ => 1
  | .clr _ => 1
  | .ser _ => 1
  | .mul _ _ => 1
  | .muls _ _ => 1
  | .mulsu _ _ => 1
  | .fmul _ _ => 1
  | .fmuls _ _ => 1
  | .fmulsu _ _ => 1
  | .des _ => 1
  | .rjmp _ => 1
  | .ijmp => 1
  | .eijmp => 1
  | .jmp _ => 2
  | .rcall _ => 1
  | .icall => 1
  | .eicall => 1
  | .call _ => 2
  | .ret => 1
  | .reti => 1
  | .cpse _ _ => 1
  | .cp _ _ => 1
  | .cpc _ _ => 1
  | .cpi _ _ => 1
  | .sbrc _ _ => 1
  | .sbrs _ _ => 1
  | .sbic _ _ => 1
  | .sbis _ _ => 1
  | .brbs _ _ => 1
  | .brbc _ _ => 1
  | .breq _ => 1
  | .brne _ => 1
  | .brcs _ => 1
  | .brcc _ => 1
  | .brsh _ => 1
  | .brlo _ => 1
  | .brmi _ => 1
  | .brpl _ => 1
  | .brge _ => 1
  | .brlt _ => 1
  | .brhs _ => 1
  | .brhc _ => 1
  | .brts _ => 1
  | .brtc _ => 1
  | .brvs _ => 1
  | .brvc _ => 1
  | .brie _ => 1
  | .brid _ => 1
  | .mov _ _ => 1
  | .movw _ _ => 1
  | .ldi _ _ => 1
  | .lds _ _ => 2
  | .ldsRc _ _ => 1
  | .ldX _ => 1
  | .ldXInc _ => 1
  | .ldXDec _ => 1
  | .ldY _ => 1
  | .ldYInc _ => 1
  | .ldYDec _ => 1
  | .lddY _ _ => 1
  | .ldZ _ => 1
  | .ldZInc _ => 1
  | .ldZDec _ => 1
  | .lddZ _ _ => 1
  | .sts _ _ => 2
  | .stsRc _ _ => 1
  | .stX _ => 1
  | .stXInc _ => 1
  | .stXDec _ => 1
  | .stY _ => 1
  | .stYInc _ => 1
  | .stYDec _ => 1
  | .stdY _ _ => 1
  | .stZ _ => 1
  | .stZInc _ => 1
  | .stZDec _ => 1
  | .stdZ _ _ => 1
  | .in_ _ _ => 1
  | .out _ _ => 1
  | .push _ => 1
  | .pop _ => 1
  | .xch _ => 1
  | .las _ => 1
  | .lac _ => 1
  | .lat _ => 1
  | .lpm => 1
  | .lpmZ _ => 1
  | .lpmZInc _ => 1
  | .elpm => 1
  | .elpmZ _ => 1
  | .elpmZInc _ => 1
  | .spm => 1
  | .spmZInc => 1
  | .lsl _ => 1
  | .lsr _ => 1
  | .rol _ => 1
  | .ror _ => 1
  | .asr _ => 1
  | .swap _ => 1
  | .sbi _ _ => 1
  | .cbi _ _ => 1
  | .bst _ _ => 1
  | .bld _ _ => 1
  | .bset _ => 1
  | .bclr _ => 1
  | .sec => 1
  | .clc => 1
  | .sen => 1
  | .cln => 1
  | .sez => 1
  | .clz => 1
  | .sei => 1
  | .cli => 1
  | .ses => 1
  | .cls => 1
  | .sev => 1
  | .clv => 1
  | .set => 1
  | .clt => 1
  | .seh => 1
  | .clh => 1
  | .break_ => 1
  | .nop => 1
  | .sleep => 1
  | .wdr => 1

/-- A word from its two bytes, the low byte first (20_memory.md R81, 70_reset_and_hazards.md R454). -/
def wordOfBytes (lo hi : Byte) : Word := hi ++ lo

/-- Decoding a stream of bytes: the instruction and the bytes after it. -/
def decodeBytes (c : Cpu) : List Byte → Except DecodeReject (Instr × List Byte)
  | b0 :: b1 :: rest =>
    match decodeWords c (wordOfBytes b0 b1) 0#16 with
    | .error e => .error e
    | .ok i =>
      if i.words = 1 then .ok (i, rest)
      else
        match rest with
        | b2 :: b3 :: rest =>
          match decodeWords c (wordOfBytes b0 b1) (wordOfBytes b2 b3) with
          | .error e => .error e
          | .ok i => .ok (i, rest)
        | _ => .error .truncated
  | _ => .error .truncated

/-- Byte `n` of a number. -/
def byteOfNat (w n : Nat) : Byte := BitVec.ofNat 8 (w / 256 ^ n)

/-- The four bytes of an instruction whose first `nbits` bits are those of `w` and whose other bits are 0, the first word
in the low 16 bits, as program memory stores them. -/
def tableBytes (nbits w : Nat) : List Byte :=
  let w := w % 2 ^ nbits
  [byteOfNat w 0, byteOfNat w 1, byteOfNat w 2, byteOfNat w 3]

/-- The instruction the decoder reads from an instruction whose bits are `w`, bit 0 the least significant bit of the
first word, on the CPU version of the default device. -/
def decodeTableWord (nbits w : Nat) : Option Instr :=
  match decodeBytes Machine.defaultDevice.core (tableBytes nbits w) with
  | .ok (i, _) => some i
  | .error _ => none

/-! ### Names of other instructions' words, and the encoder -/

/-- The instruction an instruction's words decode to: the base instruction of a name of its words, and LD or ST for a
displacement of zero (30_encoding.md R128 steps 1 and 3, R134). -/
def Instr.canonical : Instr → Instr
  | .add d r => .add d r
  | .adc d r => .adc d r
  | .adiw d K => .adiw d K
  | .sub d r => .sub d r
  | .subi d K => .subi d K
  | .sbc d r => .sbc d r
  | .sbci d K => .sbci d K
  | .sbiw d K => .sbiw d K
  | .and d r => .and d r
  | .andi d K => .andi d K
  | .or d r => .or d r
  | .ori d K => .ori d K
  | .eor d r => .eor d r
  | .com d => .com d
  | .neg d => .neg d
  | .sbr d K => .ori d K
  | .cbr d K => .andi d (~~~K)
  | .inc d => .inc d
  | .dec d => .dec d
  | .tst d => .and d d
  | .clr d => .eor d d
  | .ser d => .ldi d 0xFF#8
  | .mul d r => .mul d r
  | .muls d r => .muls d r
  | .mulsu d r => .mulsu d r
  | .fmul d r => .fmul d r
  | .fmuls d r => .fmuls d r
  | .fmulsu d r => .fmulsu d r
  | .des K => .des K
  | .rjmp k => .rjmp k
  | .ijmp => .ijmp
  | .eijmp => .eijmp
  | .jmp k => .jmp k
  | .rcall k => .rcall k
  | .icall => .icall
  | .eicall => .eicall
  | .call k => .call k
  | .ret => .ret
  | .reti => .reti
  | .cpse d r => .cpse d r
  | .cp d r => .cp d r
  | .cpc d r => .cpc d r
  | .cpi d K => .cpi d K
  | .sbrc r b => .sbrc r b
  | .sbrs r b => .sbrs r b
  | .sbic A b => .sbic A b
  | .sbis A b => .sbis A b
  | .brbs s k => .brbs s k
  | .brbc s k => .brbc s k
  | .breq k => .brbs 1 k
  | .brne k => .brbc 1 k
  | .brcs k => .brbs 0 k
  | .brcc k => .brbc 0 k
  | .brsh k => .brbc 0 k
  | .brlo k => .brbs 0 k
  | .brmi k => .brbs 2 k
  | .brpl k => .brbc 2 k
  | .brge k => .brbc 4 k
  | .brlt k => .brbs 4 k
  | .brhs k => .brbs 5 k
  | .brhc k => .brbc 5 k
  | .brts k => .brbs 6 k
  | .brtc k => .brbc 6 k
  | .brvs k => .brbs 3 k
  | .brvc k => .brbc 3 k
  | .brie k => .brbs 7 k
  | .brid k => .brbc 7 k
  | .mov d r => .mov d r
  | .movw d r => .movw d r
  | .ldi d K => .ldi d K
  | .lds d k => .lds d k
  | .ldsRc d k => .ldsRc d k
  | .ldX d => .ldX d
  | .ldXInc d => .ldXInc d
  | .ldXDec d => .ldXDec d
  | .ldY d => .ldY d
  | .ldYInc d => .ldYInc d
  | .ldYDec d => .ldYDec d
  | .lddY d q => if q = 0#6 then .ldY d else .lddY d q
  | .ldZ d => .ldZ d
  | .ldZInc d => .ldZInc d
  | .ldZDec d => .ldZDec d
  | .lddZ d q => if q = 0#6 then .ldZ d else .lddZ d q
  | .sts k r => .sts k r
  | .stsRc k r => .stsRc k r
  | .stX r => .stX r
  | .stXInc r => .stXInc r
  | .stXDec r => .stXDec r
  | .stY r => .stY r
  | .stYInc r => .stYInc r
  | .stYDec r => .stYDec r
  | .stdY q r => if q = 0#6 then .stY r else .stdY q r
  | .stZ r => .stZ r
  | .stZInc r => .stZInc r
  | .stZDec r => .stZDec r
  | .stdZ q r => if q = 0#6 then .stZ r else .stdZ q r
  | .in_ d A => .in_ d A
  | .out A r => .out A r
  | .push r => .push r
  | .pop d => .pop d
  | .xch d => .xch d
  | .las d => .las d
  | .lac d => .lac d
  | .lat d => .lat d
  | .lpm => .lpm
  | .lpmZ d => .lpmZ d
  | .lpmZInc d => .lpmZInc d
  | .elpm => .elpm
  | .elpmZ d => .elpmZ d
  | .elpmZInc d => .elpmZInc d
  | .spm => .spm
  | .spmZInc => .spmZInc
  | .lsl d => .add d d
  | .lsr d => .lsr d
  | .rol d => .adc d d
  | .ror d => .ror d
  | .asr d => .asr d
  | .swap d => .swap d
  | .sbi A b => .sbi A b
  | .cbi A b => .cbi A b
  | .bst d b => .bst d b
  | .bld d b => .bld d b
  | .bset s => .bset s
  | .bclr s => .bclr s
  | .sec => .bset 0
  | .clc => .bclr 0
  | .sen => .bset 2
  | .cln => .bclr 2
  | .sez => .bset 1
  | .clz => .bclr 1
  | .sei => .bset 7
  | .cli => .bclr 7
  | .ses => .bset 4
  | .cls => .bclr 4
  | .sev => .bset 3
  | .clv => .bclr 3
  | .set => .bset 6
  | .clt => .bclr 6
  | .seh => .bset 5
  | .clh => .bclr 5
  | .break_ => .break_
  | .nop => .nop
  | .sleep => .sleep
  | .wdr => .wdr

/-- A word from the value of its fixed bits and its fields. -/
def wordOf (n : Nat) : Word := BitVec.ofNat 16 n

/-- `oooo oord dddd rrrr`, with the opcode's bits at the top (30_encoding.md R122). -/
def encTwoReg (op : Nat) (d r : Reg) : List Word :=
  [wordOf (op + (r.val / 16) * 512 + d.val * 16 + r.val % 16)]

/-- `oooo KKKK dddd KKKK` (30_encoding.md R123). -/
def encImm (op : Nat) (d : Reg) (K : Byte) : List Word :=
  [wordOf (op + (K.toNat / 16) * 256 + (d.val % 16) * 16 + K.toNat % 16)]

/-- `oooo oood dddd oooo` (30_encoding.md R122). -/
def encOneReg (op : Nat) (d : Reg) : List Word := [wordOf (op + d.val * 16)]

/-- `0000 0011 oddd orrr` (30_encoding.md R124). -/
def encMul3 (op : Nat) (d r : Reg) : List Word := [wordOf (op + (d.val % 8) * 16 + r.val % 8)]

/-- `1001 011o KKdd KKKK` (30_encoding.md R125). -/
def encWordImm (op : Nat) (d : Reg) (K : BitVec 6) : List Word :=
  [wordOf (op + (K.toNat / 16) * 64 + ((d.val / 2) % 4) * 16 + K.toNat % 16)]

/-- `10q0 qqod dddd oqqq` (30_encoding.md R126). -/
def encDisp (op : Nat) (d : Reg) (q : BitVec 6) : List Word :=
  [wordOf (op + (q.toNat / 32) * 8192 + (q.toNat / 8 % 4) * 1024 + d.val * 16 + q.toNat % 8)]

/-- `1011 oAAd dddd AAAA` (30_encoding.md R126). -/
def encIo (op : Nat) (d : Reg) (A : BitVec 6) : List Word :=
  [wordOf (op + (A.toNat / 16) * 512 + d.val * 16 + A.toNat % 16)]

/-- `1001 10oo AAAA Abbb` (30_encoding.md R126). -/
def encIoBit (op : Nat) (A : BitVec 5) (b : Bit) : List Word := [wordOf (op + A.toNat * 8 + b.val)]

/-- `1111 1ood dddd 0bbb` (30_encoding.md R126). -/
def encRegBit (op : Nat) (d : Reg) (b : Bit) : List Word := [wordOf (op + d.val * 16 + b.val)]

/-- `1111 0okk kkkk ksss` (30_encoding.md R126). -/
def encBranch (op : Nat) (s : Bit) (k : BitVec 7) : List Word := [wordOf (op + k.toNat * 8 + s.val)]

/-- `1001 0100 osss 1000` (30_encoding.md R126). -/
def encFlag (op : Nat) (s : Bit) : List Word := [wordOf (op + s.val * 16)]

/-- `1001 010k kkkk 11ok` and the low sixteen bits of `k` (30_encoding.md R121, R126). -/
def encJump (op : Nat) (k : PcWord) : List Word :=
  [wordOf (op + (k.toNat / 131072) * 16 + k.toNat / 65536 % 2), wordOf (k.toNat % 65536)]

/-- `1010 okkk dddd kkkk` (30_encoding.md R126, R131). -/
def encRc (op : Nat) (d : Reg) (k : BitVec 7) : List Word :=
  [wordOf (op + (k.toNat / 16) * 256 + (d.val % 16) * 16 + k.toNat % 16)]

/-- The words of an instruction, from the encoding tables (30_encoding.md R129, R130); the names of other instructions'
words from R134. -/
def encode : Instr → List Word
  | .add d r => encTwoReg 0x0C00 d r
  | .adc d r => encTwoReg 0x1C00 d r
  | .adiw d K => encWordImm 0x9600 d K
  | .sub d r => encTwoReg 0x1800 d r
  | .subi d K => encImm 0x5000 d K
  | .sbc d r => encTwoReg 0x0800 d r
  | .sbci d K => encImm 0x4000 d K
  | .sbiw d K => encWordImm 0x9700 d K
  | .and d r => encTwoReg 0x2000 d r
  | .andi d K => encImm 0x7000 d K
  | .or d r => encTwoReg 0x2800 d r
  | .ori d K => encImm 0x6000 d K
  | .eor d r => encTwoReg 0x2400 d r
  | .com d => encOneReg 0x9400 d
  | .neg d => encOneReg 0x9401 d
  | .sbr d K => encImm 0x6000 d K
  | .cbr d K => encImm 0x7000 d (~~~K)
  | .inc d => encOneReg 0x9403 d
  | .dec d => encOneReg 0x940A d
  | .tst d => encTwoReg 0x2000 d d
  | .clr d => encTwoReg 0x2400 d d
  | .ser d => encImm 0xE000 d 0xFF#8
  | .mul d r => encTwoReg 0x9C00 d r
  | .muls d r => [wordOf (0x0200 + (d.val % 16) * 16 + r.val % 16)]
  | .mulsu d r => encMul3 0x0300 d r
  | .fmul d r => encMul3 0x0308 d r
  | .fmuls d r => encMul3 0x0380 d r
  | .fmulsu d r => encMul3 0x0388 d r
  | .des K => [wordOf (0x940B + K.toNat * 16)]
  | .rjmp k => [wordOf (0xC000 + k.toNat)]
  | .ijmp => [0x9409#16]
  | .eijmp => [0x9419#16]
  | .jmp k => encJump 0x940C k
  | .rcall k => [wordOf (0xD000 + k.toNat)]
  | .icall => [0x9509#16]
  | .eicall => [0x9519#16]
  | .call k => encJump 0x940E k
  | .ret => [0x9508#16]
  | .reti => [0x9518#16]
  | .cpse d r => encTwoReg 0x1000 d r
  | .cp d r => encTwoReg 0x1400 d r
  | .cpc d r => encTwoReg 0x0400 d r
  | .cpi d K => encImm 0x3000 d K
  | .sbrc r b => encRegBit 0xFC00 r b
  | .sbrs r b => encRegBit 0xFE00 r b
  | .sbic A b => encIoBit 0x9900 A b
  | .sbis A b => encIoBit 0x9B00 A b
  | .brbs s k => encBranch 0xF000 s k
  | .brbc s k => encBranch 0xF400 s k
  | .breq k => encBranch 0xF000 1 k
  | .brne k => encBranch 0xF400 1 k
  | .brcs k => encBranch 0xF000 0 k
  | .brcc k => encBranch 0xF400 0 k
  | .brsh k => encBranch 0xF400 0 k
  | .brlo k => encBranch 0xF000 0 k
  | .brmi k => encBranch 0xF000 2 k
  | .brpl k => encBranch 0xF400 2 k
  | .brge k => encBranch 0xF400 4 k
  | .brlt k => encBranch 0xF000 4 k
  | .brhs k => encBranch 0xF000 5 k
  | .brhc k => encBranch 0xF400 5 k
  | .brts k => encBranch 0xF000 6 k
  | .brtc k => encBranch 0xF400 6 k
  | .brvs k => encBranch 0xF000 3 k
  | .brvc k => encBranch 0xF400 3 k
  | .brie k => encBranch 0xF000 7 k
  | .brid k => encBranch 0xF400 7 k
  | .mov d r => encTwoReg 0x2C00 d r
  | .movw d r => [wordOf (0x0100 + (d.val / 2) * 16 + r.val / 2)]
  | .ldi d K => encImm 0xE000 d K
  | .lds d k => [wordOf (0x9000 + d.val * 16), k]
  | .ldsRc d k => encRc 0xA000 d k
  | .ldX d => encOneReg 0x900C d
  | .ldXInc d => encOneReg 0x900D d
  | .ldXDec d => encOneReg 0x900E d
  | .ldY d => encOneReg 0x8008 d
  | .ldYInc d => encOneReg 0x9009 d
  | .ldYDec d => encOneReg 0x900A d
  | .lddY d q => encDisp 0x8008 d q
  | .ldZ d => encOneReg 0x8000 d
  | .ldZInc d => encOneReg 0x9001 d
  | .ldZDec d => encOneReg 0x9002 d
  | .lddZ d q => encDisp 0x8000 d q
  | .sts k r => [wordOf (0x9200 + r.val * 16), k]
  | .stsRc k r => encRc 0xA800 r k
  | .stX r => encOneReg 0x920C r
  | .stXInc r => encOneReg 0x920D r
  | .stXDec r => encOneReg 0x920E r
  | .stY r => encOneReg 0x8208 r
  | .stYInc r => encOneReg 0x9209 r
  | .stYDec r => encOneReg 0x920A r
  | .stdY q r => encDisp 0x8208 r q
  | .stZ r => encOneReg 0x8200 r
  | .stZInc r => encOneReg 0x9201 r
  | .stZDec r => encOneReg 0x9202 r
  | .stdZ q r => encDisp 0x8200 r q
  | .in_ d A => encIo 0xB000 d A
  | .out A r => encIo 0xB800 r A
  | .push r => encOneReg 0x920F r
  | .pop d => encOneReg 0x900F d
  | .xch d => encOneReg 0x9204 d
  | .las d => encOneReg 0x9205 d
  | .lac d => encOneReg 0x9206 d
  | .lat d => encOneReg 0x9207 d
  | .lpm => [0x95C8#16]
  | .lpmZ d => encOneReg 0x9004 d
  | .lpmZInc d => encOneReg 0x9005 d
  | .elpm => [0x95D8#16]
  | .elpmZ d => encOneReg 0x9006 d
  | .elpmZInc d => encOneReg 0x9007 d
  | .spm => [0x95E8#16]
  | .spmZInc => [0x95F8#16]
  | .lsl d => encTwoReg 0x0C00 d d
  | .lsr d => encOneReg 0x9406 d
  | .rol d => encTwoReg 0x1C00 d d
  | .ror d => encOneReg 0x9407 d
  | .asr d => encOneReg 0x9405 d
  | .swap d => encOneReg 0x9402 d
  | .sbi A b => encIoBit 0x9A00 A b
  | .cbi A b => encIoBit 0x9800 A b
  | .bst d b => encRegBit 0xFA00 d b
  | .bld d b => encRegBit 0xF800 d b
  | .bset s => encFlag 0x9408 s
  | .bclr s => encFlag 0x9488 s
  | .sec => encFlag 0x9408 0
  | .clc => encFlag 0x9488 0
  | .sen => encFlag 0x9408 2
  | .cln => encFlag 0x9488 2
  | .sez => encFlag 0x9408 1
  | .clz => encFlag 0x9488 1
  | .sei => encFlag 0x9408 7
  | .cli => encFlag 0x9488 7
  | .ses => encFlag 0x9408 4
  | .cls => encFlag 0x9488 4
  | .sev => encFlag 0x9408 3
  | .clv => encFlag 0x9488 3
  | .set => encFlag 0x9408 6
  | .clt => encFlag 0x9488 6
  | .seh => encFlag 0x9408 5
  | .clh => encFlag 0x9488 5
  | .break_ => [0x9598#16]
  | .nop => [0x0000#16]
  | .sleep => [0x9588#16]
  | .wdr => [0x95A8#16]

/-- The bytes of an instruction as program memory stores them, the low byte of each word first (20_memory.md R81). -/
def encodeBytes (i : Instr) : List Byte :=
  (encode i).flatMap fun w => [w.extractLsb' 0 8, w.extractLsb' 8 8]

end Sys2Proof
end

