-- ==== Sys2Proof/Machine/Fetch.lean ====
section
/-! DEFINITION. What a step does around an instruction: the test of the mode and of the interrupt, the fetch, the decoding
and the availability test (60_exceptions.md R424, 00_scope.md R11); and how a program comes into program memory
(70_reset_and_hazards.md R454). -/

namespace Sys2Proof.Machine

/-- What a step finds at an instruction boundary (60_exceptions.md R424). -/
inductive Boundary where
  /-- No instruction is performed: the machine is stopped, or sleeps and is not woken. -/
  | idle (s : State)
  /-- An interrupt with this vector is taken. -/
  | interrupt (v : PcWord) (s : State)
  /-- The next instruction is performed. -/
  | instruction (s : State)
  deriving DecidableEq, Repr

/-- After the interrupt check: a sleeping machine waits (60_exceptions.md R424, R428). -/
def State.pastCheck (s : State) : Boundary :=
  if s.mode = .sleeping then .idle s else .instruction s

/-- The boundary before an instruction: a stopped machine takes no step; the latch is cleared, and where it was found
clear and I is set the interrupt controller is asked (60_exceptions.md R424; a stopped machine is final, log 18). -/
def State.boundary (s : State) : Boundary :=
  if s.mode = .stopped then .idle s
  else if s.irqInhibit || !s.sreg.i then (s.setIrqInhibit false).pastCheck
  else
    match s.nextRequest with
    | (some v, e) => .interrupt v ((s.setIrqInhibit false).setEnv e)
    | (none, e) => ((s.setIrqInhibit false).setEnv e).pastCheck

/-- An instruction the CPU version or the device lacks stops the step (05_cores_and_devices.md R23). -/
def State.requireAvailable (s : State) (i : Instr) : Res Unit :=
  if available s.cfg i.mnemonic then .ok ()
  else raise (.unavailableInstruction s.pc.toNat i.mnemonic)

/-- The decoded instruction, or the fault of a word that is none (30_encoding.md R128, R132). -/
def State.decoded (s : State) (w0 w1 : Word) : Res Instr :=
  match decodeWords s.cfg.core w0 w1 with
  | .ok i => .ok i
  | .error _ => raise (.illegalInstruction s.pc.toNat w0)

/-- The second word of a two-word instruction, 0 for the others (00_scope.md R11). -/
def State.secondWord (s : State) (i : Instr) : Res Word :=
  if i.words = 2 then s.progWord (s.pc.toNat + 1) else .ok 0#16

/-- Fetching: the range of the first word, the opcode lookup, the availability test, the range of the second word, in
this order (00_scope.md R11, 60_exceptions.md R420). -/
def State.fetch (s : State) : Res Instr := do
  let w0 ← s.progWord s.pc.toNat
  let i ← s.decoded w0 0#16
  s.requireAvailable i
  let w1 ← s.secondWord i
  s.decoded w0 w1

/-- Bytes stored in program memory, from the byte address `a` on. -/
def storeBytes (m : Memory) (a : Nat) : List Byte → Memory
  | [] => m
  | b :: t => storeBytes (Memory.writeByte .program m a b) (a + 1) t

/-- The bytes of a program image, the low byte of each word first (70_reset_and_hazards.md R454, 20_memory.md R81). -/
def imageBytes (image : List Word) : List Byte := image.flatMap fun w => [w.extractLsb' 0 8, w.extractLsb' 8 8]

/-- The state with a program image in program memory, from word address 0 on (70_reset_and_hazards.md R454). -/
def State.loadImage (s : State) (image : List Word) : State := { s with pmem := storeBytes [] 0 (imageBytes image) }

/-- The start of a run: the host gives an accepted configuration record and an image with one word for every word address 0 to
`FLASHEND`, and nothing else is loaded (70_reset_and_hazards.md R454, R455). -/
def State.launch (cfg : Config) (image : List Word) : Option State :=
  if accepted cfg ∧ image.length = cfg.flashEnd + 1 then some ((State.resetOf cfg).loadImage image) else none

/-- A state whose next step fetches at its Program Counter: running, and with no interrupt to be taken before the
instruction. -/
def State.readyToFetch (s : State) : State :=
  (s.setMode .running).setIrqInhibit (s.irqInhibit || s.sreg.i)

/-- An instruction stored where the next step fetches: low byte of each word first (20_memory.md R81). -/
def State.placeInstruction (s : State) (nbits w : Nat) : State :=
  { s.readyToFetch with pmem := storeBytes s.pmem (2 * s.pc.toNat) (tableBytes nbits w) }

end Sys2Proof.Machine
end

