-- ==== Sys2Proof/Machine/Step.lean ====
section
/-! DEFINITION. One step of the machine, and the placing of an instruction where the next step fetches. -/

namespace Sys2Proof.Machine

/-- One step: one instruction or one interrupt entry (60_exceptions.md R424). A configuration the rules refuse is refused
before anything else (60_exceptions.md R420). -/
def step (s : State) : Host.Outcome State Fault Refusal :=
  if accepted s.cfg then
    match s.boundary with
    | .idle s => .next s
    | .interrupt v s => finish (s.interruptEntry v)
    | .instruction s =>
      match s.fetch with
      | .ok i => exec i s
      | .error e => finish (.error e)
  else .refused .configurationRefused

/-- The state with the instruction whose first `nbits` bits are those of `w`, every other bit 0, stored where `step`
fetches its next instruction. -/
def State.withFetchWord (s : State) (nbits w : Nat) : State := s.placeInstruction nbits w

end Sys2Proof.Machine
end

