-- ==== Sys2Proof/Safety.lean ====
section
/-! DEFINITION. The terms the claims are stated in: the invariant of the machine, what an access reads and stores by
region, the flags of an operation as arithmetic on its operands, and frames. -/

namespace Sys2Proof.Machine

/-! ### The invariant -/

/-- What every step keeps: an accepted configuration, a Program Counter and a Stack Pointer inside their widths
(10_state.md R47, R50), both memories in their canonical form, and SRAM bytes only where `DS_MAP` has SRAM
(10_state.md R40). -/
def State.Inv (s : State) : Prop :=
  accepted s.cfg = true ∧
  s.pc.toNat < 2 ^ s.cfg.pcBits ∧
  s.sp.toNat < 2 ^ s.cfg.spBits ∧
  Memory.wf .data s.dmem = true ∧
  Memory.wf .program s.pmem = true ∧
  ∀ c ∈ s.dmem, dsMap s.cfg c.1 = .sram

/-! ### Frames -/

/-- Every general register but the named ones is as before. -/
def RegsKeptBut (ds : List Reg) (s t : State) : Prop := ∀ i : Reg, i ∉ ds → t.reg i = s.reg i

/-- The extension registers and EIND are as before. -/
def ExtensionsKept (s t : State) : Prop :=
  t.rampx = s.rampx ∧ t.rampy = s.rampy ∧ t.rampz = s.rampz ∧ t.rampd = s.rampd ∧ t.eind = s.eind

/-- The configuration, the mode and the latch are as before. -/
def ModeKept (s t : State) : Prop := t.cfg = s.cfg ∧ t.mode = s.mode ∧ t.irqInhibit = s.irqInhibit

/-- Every byte of SRAM reads as before. -/
def SramKept (s t : State) : Prop := ∀ a : Nat, t.sramByte a = s.sramByte a

/-- Every byte of program memory reads as before. -/
def FlashKept (s t : State) : Prop := ∀ b : Nat, t.flashByte b = s.flashByte b

/-- Nothing but the named registers, the flags and the Program Counter may have changed. -/
def RegisterFrame (ds : List Reg) (s t : State) : Prop :=
  RegsKeptBut ds s t ∧ ExtensionsKept s t ∧ ModeKept s t ∧ t.sp = s.sp ∧ SramKept s t ∧ FlashKept s t ∧ t.env = s.env

/-- The Program Counter `n` words further, at its width (10_state.md R47, whose wrap is decision D3; log 13). -/
def PcAdvanced (n : Nat) (s t : State) : Prop :=
  t.pc = BitVec.ofNat 22 ((s.pc.toNat + n) % 2 ^ s.cfg.pcBits)

/-- The Program Counter at the word address `v`, at its width (10_state.md R47, whose wrap is decision D3; log 13). -/
def PcIs (v : Int) (s t : State) : Prop :=
  t.pc = BitVec.ofNat 22 (v % ((2 ^ s.cfg.pcBits : Nat) : Int)).toNat

/-- The jumps, calls, returns, skips and branches, under their base names (42_change_of_flow.md). -/
def changesFlow (m : Mnemonic) : Bool :=
  [Mnemonic.rjmp, .ijmp, .eijmp, .jmp, .rcall, .icall, .eicall, .call, .ret, .reti, .cpse, .sbrc, .sbrs, .sbic, .sbis,
    .brbs, .brbc].contains m

/-- Nothing but the Program Counter may have changed. -/
def OnlyPc (s t : State) : Prop := RegisterFrame [] s t ∧ t.sreg = s.sreg

/-- Everything but the Program Counter, the Stack Pointer, SRAM, the status, the mode and the surroundings is as before. -/
def KeptAcrossStack (s t : State) : Prop := RegsKeptBut [] s t ∧ ExtensionsKept s t ∧ FlashKept s t ∧ t.cfg = s.cfg

/-- The value of the register pair whose low register is `d` (00_scope.md R10). -/
def pairValue (s : State) (d : Reg) : Word := s.reg (d + 1) ++ s.reg d

/-- The eight registers from `b` on as one value, the first the least significant byte (41_multiply_des.md R206). -/
def blockValue (s : State) (b : Reg) : BitVec 64 :=
  s.reg (b + 7) ++ s.reg (b + 6) ++ s.reg (b + 5) ++ s.reg (b + 4) ++
    s.reg (b + 3) ++ s.reg (b + 2) ++ s.reg (b + 1) ++ s.reg b

/-! ### Several steps -/

/-- Instructions performed one after another, up to the first that stops. -/
def execAll : List Instr → State → StepOutcome
  | [], s => .next s
  | i :: rest, s =>
    match exec i s with
    | .next t => execAll rest t
    | o => o

/-- The sixteen DES instructions in increasing order (41_multiply_des.md R206, 70_reset_and_hazards.md R465). -/
def desProgram : List Instr := (List.range 16).map fun n => .des (BitVec.ofNat 4 n)

/-- A state a run gets to from `s`, in any number of steps. -/
inductive Reaches (s : State) : State → Prop where
  | start : Reaches s s
  | step {t u : State} : Reaches s t → step t = .next u → Reaches s u

/-! ### Flags as arithmetic -/

/-- A carry as a number. -/
def carryNat (c : Bool) : Nat := if c then 1 else 0

/-- An exact result that 8 bits in two's complement do not hold. -/
def overflows (x : Int) : Bool := decide (x < -128 ∨ 127 < x)

/-- The flags `g` after the addition `a + b + c` with result `r`, `f` being the flags before: the arithmetic statements of
40_arithmetic_logic.md R160. -/
def FlagsOfAdd (f g : Sreg) (a b : Byte) (c : Bool) (r : Byte) : Prop :=
  r.toNat = (a.toNat + b.toNat + carryNat c) % 256 ∧
  g.c = decide (256 ≤ a.toNat + b.toNat + carryNat c) ∧
  g.h = decide (16 ≤ a.toNat % 16 + b.toNat % 16 + carryNat c) ∧
  g.v = overflows (a.toInt + b.toInt + carryNat c) ∧
  g.n = decide (128 ≤ r.toNat) ∧
  g.z = decide (r = 0#8) ∧
  g.s = (g.n ^^ g.v) ∧
  g.t = f.t ∧ g.i = f.i

/-- The flags `g` after the subtraction `a - b - c` with result `r`: the arithmetic statements of
40_arithmetic_logic.md R161; with `keepZ` Z can only stay or fall. -/
def FlagsOfSub (f g : Sreg) (a b : Byte) (c keepZ : Bool) (r : Byte) : Prop :=
  (r.toNat : Int) = ((a.toNat : Int) - b.toNat - carryNat c) % 256 ∧
  g.c = decide (a.toNat < b.toNat + carryNat c) ∧
  g.h = decide (a.toNat % 16 < b.toNat % 16 + carryNat c) ∧
  g.v = overflows (a.toInt - b.toInt - carryNat c) ∧
  g.n = decide (128 ≤ r.toNat) ∧
  g.z = (decide (r = 0#8) && (!keepZ || f.z)) ∧
  g.s = (g.n ^^ g.v) ∧
  g.t = f.t ∧ g.i = f.i

/-- The flags `g` after a logic operation with result `r`: V cleared, C and H kept (40_arithmetic_logic.md R162). -/
def FlagsOfLogic (f g : Sreg) (r : Byte) : Prop :=
  g.v = false ∧ g.n = decide (128 ≤ r.toNat) ∧ g.s = decide (128 ≤ r.toNat) ∧ g.z = decide (r = 0#8) ∧
  g.c = f.c ∧ g.h = f.h ∧ g.t = f.t ∧ g.i = f.i

/-- The flags `g` after ADIW or SBIW with exact result `x` and result `r`, `signed` being the signed exact result: H kept
(40_arithmetic_logic.md R165, R170). -/
def FlagsOfWord (f g : Sreg) (x signed : Int) (r : Word) : Prop :=
  (r.toNat : Int) = x % 65536 ∧
  g.c = decide (x < 0 ∨ 65536 ≤ x) ∧
  g.v = decide (signed < -32768 ∨ 32767 < signed) ∧
  g.n = decide (32768 ≤ r.toNat) ∧
  g.z = decide (r = 0#16) ∧
  g.s = (g.n ^^ g.v) ∧
  g.h = f.h ∧ g.t = f.t ∧ g.i = f.i

/-- The flags `g` after a shift or rotate to the right with result `r` and bit `c` shifted out, H kept: C is the bit, V is
`N ^ C`, S is `N ^ V` (45_bit_and_bit_test.md R388). -/
def FlagsOfShiftRight (f g : Sreg) (r : Byte) (c : Bool) : Prop :=
  g.c = c ∧ g.n = decide (128 ≤ r.toNat) ∧ g.z = decide (r = 0#8) ∧ g.v = (g.n ^^ c) ∧ g.s = (g.n ^^ g.v) ∧
  g.h = f.h ∧ g.t = f.t ∧ g.i = f.i

/-- The flags `g` after INC or DEC with signed exact result `x` and result `r`: C and H kept (40_arithmetic_logic.md R180,
R181). -/
def FlagsOfCount (f g : Sreg) (x : Int) (r : Byte) : Prop :=
  g.v = overflows x ∧ g.n = decide (128 ≤ r.toNat) ∧ g.z = decide (r = 0#8) ∧ g.s = (g.n ^^ g.v) ∧
  g.c = f.c ∧ g.h = f.h ∧ g.t = f.t ∧ g.i = f.i

/-- The flags `g` after a shift or rotate of `v` to the left with result `r`: H and C are bits 3 and 7 of the old value, V
is `N ^ C`, S is `N ^ V` (45_bit_and_bit_test.md R360, R362). -/
def FlagsOfShiftLeft (f g : Sreg) (v r : Byte) : Prop :=
  g.h = v.getLsbD 3 ∧ g.c = v.getLsbD 7 ∧ g.n = decide (128 ≤ r.toNat) ∧ g.z = decide (r = 0#8) ∧
  g.v = (g.n ^^ g.c) ∧ g.s = (g.n ^^ g.v) ∧ g.t = f.t ∧ g.i = f.i

/-- What a multiplication with exact product `x` leaves, shifted left by one where `frac`: R1:R0, and C and Z of the flags
(41_multiply_des.md R207). -/
def MultipliedTo (x : Int) (frac : Bool) (s t : State) : Prop :=
  pairValue t 0 = BitVec.ofInt 16 (if frac then 2 * x else x) ∧
  t.sreg.c = (BitVec.ofInt 16 x).getLsbD 15 ∧
  t.sreg.z = decide (pairValue t 0 = 0#16) ∧
  t.sreg.i = s.sreg.i ∧ t.sreg.t = s.sreg.t ∧ t.sreg.h = s.sreg.h ∧ t.sreg.s = s.sreg.s ∧ t.sreg.v = s.sreg.v ∧
  t.sreg.n = s.sreg.n ∧
  RegisterFrame [0, 1] s t ∧ PcAdvanced 1 s t

/-- One flag of SREG is `x`, the seven others are as before. -/
def OneFlagIs (k : Bit) (x : Bool) (f g : Sreg) : Prop := g.bit k = x ∧ ∀ j : Bit, j ≠ k → g.bit j = f.bit j

/-- The instruction named after setting flag `k` (45_bit_and_bit_test.md R370). -/
def setInstr : Bit → Instr
  | 0 => .sec | 1 => .sez | 2 => .sen | 3 => .sev | 4 => .ses | 5 => .seh | 6 => .set | 7 => .sei

/-- The instruction named after clearing flag `k` (45_bit_and_bit_test.md R371). -/
def clearInstr : Bit → Instr
  | 0 => .clc | 1 => .clz | 2 => .cln | 3 => .clv | 4 => .cls | 5 => .clh | 6 => .clt | 7 => .cli

/-- A byte that is `v` with bit `b` replaced by `x`. -/
def IsWithBit (v : Byte) (b : Bit) (x : Bool) (w : Byte) : Prop :=
  ∀ j : Nat, w.getLsbD j = if j = b.val then x else v.getLsbD j

/-! ### What a data-space access reads and stores, by region -/

/-- The platform answers at an address. -/
def platformAnswers (s : State) (space : Space) (a : Nat) : Bool := !s.cfg.platformAbsent.contains (space, a)

/-- The byte a read of an I/O location gives; nothing where it stops (20_memory.md R93). -/
def ioByte (s : State) (a : Nat) : Option Byte :=
  match cpuIoAt s.cfg a with
  | some r => some (s.cpuIoRead r)
  | none => if platformAnswers s .io a then some s.env.nextByte.1 else none

/-- The surroundings after a read of an I/O location: touched by a platform read alone (20_memory.md R93, R95). -/
def envAfterIoRead (s : State) (a : Nat) : Env :=
  match cpuIoAt s.cfg a with
  | some _ => s.env
  | none => { s.env.nextByte.2 with trace := .periphRead .io a s.env.nextByte.1 :: s.env.trace }

/-- The byte a data-space read gives; nothing where it stops (20_memory.md R86). -/
def dataByte (s : State) (a : Nat) : Option Byte :=
  match dsMap s.cfg a with
  | .reg n => if s.hasReg n then some (s.reg n) else none
  | .io i => ioByte s i
  | .sram => s.sramByte a
  | .flash b => if b / 2 ≤ s.cfg.flashEnd then some (s.flashByte b) else none
  | .other => if platformAnswers s .data a then some s.env.nextByte.1 else none
  | .unmapped => none

/-- The surroundings after a data-space read: touched by a platform read alone (20_memory.md R86, R95). -/
def envAfterRead (s : State) (a : Nat) : Env :=
  match dsMap s.cfg a with
  | .io i => envAfterIoRead s i
  | .other => { s.env.nextByte.2 with trace := .periphRead .data a s.env.nextByte.1 :: s.env.trace }
  | _ => s.env

/-- The fault of a data-space read that gives no byte (20_memory.md R86, R93, R95, R98; 10_state.md R42). -/
def readFault (s : State) (a : Nat) : Fault :=
  match dsMap s.cfg a with
  | .reg n => .registerOutOfRange s.pc.toNat n
  | .io i => .unmappedAccess .io i
  | .sram => .unwrittenRead a
  | .flash b => .unmappedAccess .program b
  | .other | .unmapped => .unmappedAccess .data a

/-- The fault of a data-space store that does not go through (20_memory.md R87, R93, R95; 10_state.md R42). -/
def writeFault (s : State) (a : Nat) : Fault :=
  match dsMap s.cfg a with
  | .reg n => .registerOutOfRange s.pc.toNat n
  | .io i => .unmappedAccess .io i
  | .sram | .flash _ | .other | .unmapped => .unmappedAccess .data a

/-- A data-space store goes through (20_memory.md R87). -/
def writable (s : State) (a : Nat) : Bool :=
  match dsMap s.cfg a with
  | .reg n => s.hasReg n
  | .io i => (cpuIoAt s.cfg i).isSome || platformAnswers s .io i
  | .sram => true
  | .flash _ => false
  | .other => platformAnswers s .data a
  | .unmapped => false

/-- The state after a store of `v` to the I/O location `a` that goes through (20_memory.md R93): a CPU register written, or
an event for the platform. -/
def ioStored (s : State) (a : Nat) (v : Byte) : State :=
  match cpuIoAt s.cfg a with
  | some r => s.cpuIoWrite r v
  | none => s.record (.periphWrite .io a v)

/-- What a store of `v` to data-space address `a` does, seen through reads (20_memory.md R87): the stored byte, and every
other byte, register and flag as before. An I/O location is stored to as IoWrite says. -/
def StoredAt (a : Nat) (v : Byte) (s t : State) : Prop :=
  match dsMap s.cfg a with
  | .reg n => t.reg n = v ∧ RegisterFrame [n] s t ∧ t.sreg = s.sreg ∧ t.pc = s.pc
  | .io i => t = ioStored s i v ∧ SramKept s t ∧ FlashKept s t ∧ RegsKeptBut [] s t ∧ t.pc = s.pc
  | .sram =>
    t.sramByte a = some v ∧ (∀ b, b ≠ a → t.sramByte b = s.sramByte b) ∧ RegsKeptBut [] s t ∧ t.sreg = s.sreg ∧
      t.sp = s.sp ∧ ExtensionsKept s t ∧ ModeKept s t ∧ FlashKept s t ∧ t.env = s.env ∧ t.pc = s.pc
  | .other => t = s.record (.periphWrite .data a v)
  | .flash _ | .unmapped => False

/-- What a load into Rd leaves, `v` being the byte read and `e` the surroundings after the read: Rd alone, no flag. -/
def LoadedInto (d : Reg) (v : Byte) (e : Env) (s t : State) : Prop :=
  t.reg d = v ∧ RegsKeptBut [d] s t ∧ t.sreg = s.sreg ∧ t.sp = s.sp ∧ ExtensionsKept s t ∧ ModeKept s t ∧
  SramKept s t ∧ FlashKept s t ∧ t.env = e

/-- A pointer updated to `v`, at its width: the high register kept where it has 8 bits, the extension register kept where
it has fewer than 24 (43_data_transfer.md R285). -/
def PointerIs (p : Ptr) (v : Nat) (s t : State) : Prop :=
  t.reg p.lo = BitVec.ofNat 8 v ∧
  t.reg p.hi = (if ptrBits s.cfg p = 8 then s.reg p.hi else BitVec.ofNat 8 (v / 256)) ∧
  t.ramp p = (if ptrBits s.cfg p = 24 then BitVec.ofNat 8 (v / 65536) else s.ramp p) ∧
  ∀ p', p' ≠ p → t.ramp p' = s.ramp p'

/-- Everything a pointer update may not touch is as before: all but the pointer's registers, the registers named, and the
Program Counter. -/
def PointerFrame (p : Ptr) (ds : List Reg) (s t : State) : Prop :=
  RegsKeptBut (p.lo :: p.hi :: ds) s t ∧ t.sreg = s.sreg ∧ t.sp = s.sp ∧ t.rampd = s.rampd ∧ t.eind = s.eind ∧
  ModeKept s t ∧ SramKept s t ∧ FlashKept s t

/-- A displaced pointer, at the pointer's width (43_data_transfer.md R285). -/
def displaced (s : State) (p : Ptr) (q : Nat) : Nat := (s.ptrGet p + q) % 2 ^ ptrBits s.cfg p

/-- A pointer less one, at the pointer's width (43_data_transfer.md R285). -/
def decremented (s : State) (p : Ptr) : Nat := (s.ptrGet p + 2 ^ ptrBits s.cfg p - 1) % 2 ^ ptrBits s.cfg p

/-! ### The stack -/

/-- How many bytes a return address takes (42_change_of_flow.md R224). -/
def raBytes (cfg : Config) : Nat := if 16 < cfg.pcBits then 3 else 2

/-- The address of the byte `n` below the Stack Pointer, at its width (10_state.md R51). -/
def stackBelow (s : State) (n : Nat) : Nat := (((s.sp.toNat : Int) - n) % ((2 ^ s.cfg.spBits : Nat) : Int)).toNat

/-- The address of the byte `n` above the Stack Pointer, at its width (10_state.md R51). -/
def stackAbove (s : State) (n : Nat) : Nat := (s.sp.toNat + n) % 2 ^ s.cfg.spBits

/-- The Stack Pointer has its width, and the `n` bytes from it downwards are distinct bytes of internal SRAM. -/
def StackRoom (s : State) (n : Nat) : Prop :=
  s.cfg.spBits ≤ 16 ∧ n ≤ 2 ^ s.cfg.spBits ∧ s.sp.toNat < 2 ^ s.cfg.spBits ∧
  ∀ k : Nat, k < n → dsMap s.cfg (stackBelow s k) = .sram

/-- The return address `a` is on the stack: its bytes, the low one first, from the Stack Pointer downwards, every other
byte of SRAM as before, the Stack Pointer below them (42_change_of_flow.md R224; the byte order is decision D8, log 11). -/
def ReturnPushed (a : Nat) (s t : State) : Prop :=
  (∀ k : Nat, k < raBytes s.cfg →
    t.sramByte (stackBelow s k) = some (BitVec.ofNat 8 (a % 2 ^ s.cfg.pcBits / 256 ^ k))) ∧
  (∀ b : Nat, (∀ k : Nat, k < raBytes s.cfg → b ≠ stackBelow s k) → t.sramByte b = s.sramByte b) ∧
  t.sp.toNat = stackBelow s (raBytes s.cfg)

/-- The return address the bytes `b 1`, `b 2` and, where it takes three, `b 3` make, the first the most significant
(42_change_of_flow.md R229; the byte order is decision D8, log 11). -/
def returnAddress (cfg : Config) (b : Nat → Byte) : Nat :=
  if 16 < cfg.pcBits then (b 1).toNat * 65536 + (b 2).toNat * 256 + (b 3).toNat
  else (b 1).toNat * 256 + (b 2).toNat

/-- The bytes above the Stack Pointer are bytes `b 1`, `b 2`, … of internal SRAM, as many as a return address takes. -/
def StackHolds (s : State) (b : Nat → Byte) : Prop :=
  s.cfg.spBits ≤ 16 ∧
  ∀ k : Nat, 1 ≤ k → k ≤ raBytes s.cfg →
    dsMap s.cfg (stackAbove s k) = .sram ∧ s.sramByte (stackAbove s k) = some (b k)

/-- The CPU version clears I at interrupt entry and sets it at RETI (60_exceptions.md R427). -/
def servesIFlag (cfg : Config) : Bool :=
  match cfg.core with
  | .avr | .avrE | .avrEPlus | .avrRc => true
  | .avrXm | .avrXt => false

/-! ### Skips -/

/-- What a skip instruction answers: `o`, where `e` is the surroundings it leaves (42_change_of_flow.md R232). -/
def SkipAnswers (cond : Bool) (e : Env) (s : State) (o : StepOutcome) : Prop :=
  if cond = true ∧ s.cfg.flashEnd < (s.pc.toNat + 1) % 2 ^ s.cfg.pcBits then
    o = .fault (.fetchOutOfRange ((s.pc.toNat + 1) % 2 ^ s.cfg.pcBits))
  else
    ∃ t, o = .next t ∧ OnlyPc (s.setEnv e) t ∧
      PcAdvanced (if cond then
          1 + instructionLength s.cfg.core (s.flashWord ((s.pc.toNat + 1) % 2 ^ s.cfg.pcBits)) else 1) s t

/-! ### Program memory -/

/-- The byte of program space at a byte address, from its word: the low byte at an even address, the high one at an odd
(20_memory.md R98). -/
def programByte (s : State) (b : Nat) : Byte :=
  if b % 2 = 0 then (s.flashWord (b / 2)).extractLsb' 0 8 else (s.flashWord (b / 2)).extractLsb' 8 8

/-- The byte address of LPM: Z, 16 bits (44_program_memory.md R340). -/
def lpmAddress (s : State) : Nat := (pairValue s 30).toNat

/-- The byte address of ELPM: RAMPZ:Z, or Z alone where RAMPZ is absent (44_program_memory.md R346). -/
def elpmAddress (s : State) : Nat :=
  if s.cfg.hasRampZ then s.rampz.toNat * 65536 + (pairValue s 30).toNat else (pairValue s 30).toNat

/-- What a load from program memory into Rd answers: `o` (44_program_memory.md R340, R341, R343, R344; the fault beyond
FLASHEND is decision D17). -/
def ProgramLoadAnswers (d : Reg) (a : Nat) (s : State) (o : StepOutcome) : Prop :=
  if a / 2 ≤ s.cfg.flashEnd then
    ∃ t, o = .next t ∧ t.reg d = programByte s a ∧ RegisterFrame [d] s t ∧ t.sreg = s.sreg ∧ PcAdvanced 1 s t
  else o = .fault (.unmappedAccess .program a)

end Sys2Proof.Machine
end

