-- ==== Sys2Proof/Certificates/Slice0/Obligations.lean ====
section
/-! DEFINITION. The statements for the provers. Where a clause rests on a decision of the spec or on a choice of the
model, the docstring names it. Every clause on the Program Counter rests on its width (10_state.md R47, decision D3,
log 13); a frame without such a clause leaves the Program Counter to `SequentialAdvance`. -/

section Statements

open Sys2Proof Sys2Proof.Machine

/-! ### Encoding -/

/-- Decoding the bytes of a well-formed instruction gives that instruction back, or the instruction its words belong to
where it is only another name of them, and leaves the bytes after it (30_encoding.md R120 to R134). -/
def Obligations.DecodeOfEncode : Prop :=
  ∀ (c : Cpu) (i : Instr) (rest : List Byte), i.wf = true → i.encodableOn c = true →
    decodeBytes c (encodeBytes i ++ rest) = .ok (i.canonical, rest)

/-- Whatever the decoder accepts is well-formed, has words of its own on that CPU version, is no second name, and encodes
to the very words it was read from: no bit of a word is dropped (30_encoding.md R132, last sentence). -/
def Obligations.EncodeOfDecode : Prop :=
  ∀ (c : Cpu) (w0 w1 : Word) (i : Instr), decodeWords c w0 w1 = .ok i →
    i.wf = true ∧ i.encodableOn c = true ∧ i.canonical = i ∧
    encode i = (if i.words = 2 then [w0, w1] else [w0])

/-- The words that are no instruction are those of the table of 30_encoding.md R132, on every CPU version. -/
def Obligations.IllegalWords : Prop :=
  ∀ (c : Cpu) (w0 w1 : Word), decodeWords c w0 w1 = .error (.illegal w0) ↔
    ((w0 &&& 0xFF00#16 = 0x0000#16 ∧ w0 ≠ 0x0000#16) ∨
     (w0 &&& 0xFE0F#16 = 0x9003#16 ∨ w0 &&& 0xFE0F#16 = 0x9008#16 ∨ w0 &&& 0xFE0F#16 = 0x900B#16) ∨
     (w0 &&& 0xFE0F#16 = 0x9203#16 ∨ w0 &&& 0xFE0F#16 = 0x9208#16 ∨ w0 &&& 0xFE0F#16 = 0x920B#16) ∨
     w0 &&& 0xFE0F#16 = 0x9404#16 ∨
     w0 ∈ [0x9528#16, 0x9538#16, 0x9548#16, 0x9558#16, 0x9568#16, 0x9578#16, 0x95B8#16] ∨
     (w0 &&& 0xFE0F#16 = 0x9409#16 ∧ w0 ∉ [0x9409#16, 0x9419#16, 0x9509#16, 0x9519#16]) ∨
     w0 &&& 0xFF0F#16 = 0x950B#16 ∨
     w0 &&& 0xF808#16 = 0xF808#16)

/-- Words written out from the spec's encodings decode to the instructions they stand for: at least one of each of the seven
family files (40 to 46), and JMP with all 22 bits of its target (30_encoding.md R129, R130). The registers that the short
fields of ADIW and ANDI count from, and the order of the bits in a split field, are PRESUMED (log 12). -/
def Obligations.SampleWordsDecode : Prop :=
  decodeWords .avrXm 0x0C12#16 0#16 = .ok (.add 1 2) ∧
  decodeWords .avrXm 0x9601#16 0#16 = .ok (.adiw 24 1#6) ∧
  decodeWords .avrXm 0x701F#16 0#16 = .ok (.andi 17 0x0F#8) ∧
  decodeWords .avrXm 0x9C54#16 0#16 = .ok (.mul 5 4) ∧
  decodeWords .avrXm 0x94FB#16 0#16 = .ok (.des 15#4) ∧
  decodeWords .avrXm 0xCFFF#16 0#16 = .ok (.rjmp (-1)) ∧
  decodeWords .avrXm 0xF016#16 0#16 = .ok (.brbs 6 2#7) ∧
  decodeWords .avrXm 0xFC07#16 0#16 = .ok (.sbrc 0 7) ∧
  decodeWords .avrXm 0x9B80#16 0#16 = .ok (.sbis 0x10#5 0) ∧
  decodeWords .avrXm 0x923E#16 0#16 = .ok (.stXDec 3) ∧
  decodeWords .avrXm 0x9116#16 0#16 = .ok (.elpmZ 17) ∧
  decodeWords .avrXm 0x9502#16 0#16 = .ok (.swap 16) ∧
  decodeWords .avrXm 0x9598#16 0#16 = .ok .break_ ∧
  decodeWords .avrXm 0x95FD#16 0x1234#16 = .ok (.jmp 0x3F1234#22)

/-- An instruction that is only another name has the words of the instruction it names, and performing that instruction
has exactly its effect, every flag included (30_encoding.md R134). -/
def Obligations.SecondNames : Prop :=
  ∀ (i : Instr) (s : State), encode i.canonical = encode i ∧ exec i.canonical s = exec i s

/-- On AVRrc a word `1010 ...` is the one-word LDS or STS; on every other CPU version it is LDD or STD with a displacement
of 32 or more (30_encoding.md R131). -/
def Obligations.ReducedCoreOverlay : Prop :=
  ∀ (c : Cpu) (w0 w1 : Word), w0 &&& 0xF000#16 = 0xA000#16 →
    if c = .avrRc then
      (∃ d k, decodeWords c w0 w1 = .ok (.ldsRc d k)) ∨ (∃ k r, decodeWords c w0 w1 = .ok (.stsRc k r))
    else
      (∃ d q, 32 ≤ q.toNat ∧ (decodeWords c w0 w1 = .ok (.lddY d q) ∨ decodeWords c w0 w1 = .ok (.lddZ d q))) ∨
      (∃ r q, 32 ≤ q.toNat ∧ (decodeWords c w0 w1 = .ok (.stdY q r) ∨ decodeWords c w0 w1 = .ok (.stdZ q r)))

/-- The length a skip finds from the first word alone is the length of the instruction decoded from it; AVRrc has no
two-word instruction (30_encoding.md R133; decision D24, log 35). -/
def Obligations.SkipLength : Prop :=
  ∀ (c : Cpu) (w0 w1 : Word) (i : Instr), decodeWords c w0 w1 = .ok i →
    instructionLength c w0 = if c = .avrRc then 1 else i.words

/-! ### Arithmetic and logic -/

/-- ADD and ADC: the sum, the six flags, and the frame (40_arithmetic_logic.md R160, R163, R164). -/
def Obligations.AddForms : Prop :=
  ∀ (d r : Reg) (s : State), s.hasReg d = true → s.hasReg r = true →
    (∃ t, exec (.add d r) s = .next t ∧
      FlagsOfAdd s.sreg t.sreg (s.reg d) (s.reg r) false (t.reg d) ∧ RegisterFrame [d] s t) ∧
    (∃ t, exec (.adc d r) s = .next t ∧
      FlagsOfAdd s.sreg t.sreg (s.reg d) (s.reg r) s.sreg.c (t.reg d) ∧ RegisterFrame [d] s t)

/-- SUB, SUBI, SBC and SBCI: the difference, the six flags with the sticky Z of the forms with carry, and the frame
(40_arithmetic_logic.md R161, R166 to R169). -/
def Obligations.SubForms : Prop :=
  ∀ (d r : Reg) (K : Byte) (s : State), s.hasReg d = true → s.hasReg r = true →
    (∃ t, exec (.sub d r) s = .next t ∧
      FlagsOfSub s.sreg t.sreg (s.reg d) (s.reg r) false false (t.reg d) ∧ RegisterFrame [d] s t) ∧
    (∃ t, exec (.subi d K) s = .next t ∧
      FlagsOfSub s.sreg t.sreg (s.reg d) K false false (t.reg d) ∧ RegisterFrame [d] s t) ∧
    (∃ t, exec (.sbc d r) s = .next t ∧
      FlagsOfSub s.sreg t.sreg (s.reg d) (s.reg r) s.sreg.c true (t.reg d) ∧ RegisterFrame [d] s t) ∧
    (∃ t, exec (.sbci d K) s = .next t ∧
      FlagsOfSub s.sreg t.sreg (s.reg d) K s.sreg.c true (t.reg d) ∧ RegisterFrame [d] s t)

/-- CP, CPC and CPI: the flags of the difference, which is not stored (42_change_of_flow.md R234 to R236). -/
def Obligations.CompareForms : Prop :=
  ∀ (d r : Reg) (K : Byte) (s : State), s.hasReg d = true → s.hasReg r = true →
    (∃ t v, exec (.cp d r) s = .next t ∧
      FlagsOfSub s.sreg t.sreg (s.reg d) (s.reg r) false false v ∧ RegisterFrame [] s t) ∧
    (∃ t v, exec (.cpc d r) s = .next t ∧
      FlagsOfSub s.sreg t.sreg (s.reg d) (s.reg r) s.sreg.c true v ∧ RegisterFrame [] s t) ∧
    (∃ t v, exec (.cpi d K) s = .next t ∧
      FlagsOfSub s.sreg t.sreg (s.reg d) K false false v ∧ RegisterFrame [] s t)

/-- ADIW and SBIW on the upper four pairs: the 16-bit result, the five flags, H kept, and the frame
(40_arithmetic_logic.md R165, R170). -/
def Obligations.WordImmediateForms : Prop :=
  ∀ (d : Reg) (K : BitVec 6) (s : State), d.isWordPair = true →
    (∃ t, exec (.adiw d K) s = .next t ∧
      FlagsOfWord s.sreg t.sreg ((pairValue s d).toNat + K.toNat) ((pairValue s d).toInt + K.toNat) (pairValue t d) ∧
      RegisterFrame [d, d + 1] s t ∧ PcAdvanced 1 s t) ∧
    (∃ t, exec (.sbiw d K) s = .next t ∧
      FlagsOfWord s.sreg t.sreg ((pairValue s d).toNat - K.toNat) ((pairValue s d).toInt - K.toNat) (pairValue t d) ∧
      RegisterFrame [d, d + 1] s t ∧ PcAdvanced 1 s t)

/-- AND, ANDI, OR, ORI, EOR, SBR, CBR, TST and CLR: the result, S V N Z, and the frame (40_arithmetic_logic.md R162, R171
to R175, R178, R179, R182, R183). -/
def Obligations.LogicForms : Prop :=
  ∀ (d r : Reg) (K : Byte) (s : State), s.hasReg d = true → s.hasReg r = true →
    ∀ p ∈ [(Instr.and d r, s.reg d &&& s.reg r), (Instr.andi d K, s.reg d &&& K), (Instr.or d r, s.reg d ||| s.reg r),
           (Instr.ori d K, s.reg d ||| K), (Instr.eor d r, s.reg d ^^^ s.reg r), (Instr.sbr d K, s.reg d ||| K),
           (Instr.cbr d K, s.reg d &&& (0xFF#8 - K)), (Instr.tst d, s.reg d), (Instr.clr d, 0x00#8)],
      ∃ t, exec p.1 s = .next t ∧ t.reg d = p.2 ∧ FlagsOfLogic s.sreg t.sreg p.2 ∧ RegisterFrame [d] s t

/-- COM, NEG, INC and DEC: the result, the flags, and the frame (40_arithmetic_logic.md R176, R177, R180, R181). -/
def Obligations.ComNegIncDec : Prop :=
  ∀ (d : Reg) (s : State), s.hasReg d = true →
    (∃ t, exec (.com d) s = .next t ∧ (t.reg d).toNat = 255 - (s.reg d).toNat ∧ t.sreg.c = true ∧
      t.sreg.v = false ∧ t.sreg.n = decide (128 ≤ (t.reg d).toNat) ∧ t.sreg.s = (t.sreg.n ^^ t.sreg.v) ∧
      t.sreg.z = decide (t.reg d = 0#8) ∧ t.sreg.h = s.sreg.h ∧ t.sreg.t = s.sreg.t ∧ t.sreg.i = s.sreg.i ∧
      RegisterFrame [d] s t ∧ PcAdvanced 1 s t) ∧
    (∃ t, exec (.neg d) s = .next t ∧ FlagsOfSub s.sreg t.sreg 0x00#8 (s.reg d) false false (t.reg d) ∧
      RegisterFrame [d] s t ∧ PcAdvanced 1 s t) ∧
    (∃ t, exec (.inc d) s = .next t ∧ (t.reg d).toNat = ((s.reg d).toNat + 1) % 256 ∧
      FlagsOfCount s.sreg t.sreg ((s.reg d).toInt + 1) (t.reg d) ∧ RegisterFrame [d] s t ∧ PcAdvanced 1 s t) ∧
    (∃ t, exec (.dec d) s = .next t ∧ (t.reg d).toNat = ((s.reg d).toNat + 255) % 256 ∧
      FlagsOfCount s.sreg t.sreg ((s.reg d).toInt - 1) (t.reg d) ∧ RegisterFrame [d] s t ∧ PcAdvanced 1 s t)

/-- MOV, MOVW, LDI, SER and SWAP copy, load or exchange, and change no flag (43_data_transfer.md R280 to R282,
40_arithmetic_logic.md R184, 45_bit_and_bit_test.md R365). -/
def Obligations.CopyForms : Prop :=
  ∀ (d r : Reg) (K : Byte) (s : State), s.hasReg d = true → s.hasReg r = true →
    (∃ t, exec (.mov d r) s = .next t ∧ t.reg d = s.reg r ∧ t.sreg = s.sreg ∧ RegisterFrame [d] s t ∧
      PcAdvanced 1 s t) ∧
    (d.isPair = true → r.isPair = true →
      ∃ t, exec (.movw d r) s = .next t ∧ pairValue t d = pairValue s r ∧ t.sreg = s.sreg ∧
        RegisterFrame [d, d + 1] s t ∧ PcAdvanced 1 s t) ∧
    (∃ t, exec (.ldi d K) s = .next t ∧ t.reg d = K ∧ t.sreg = s.sreg ∧ RegisterFrame [d] s t ∧ PcAdvanced 1 s t) ∧
    (∃ t, exec (.ser d) s = .next t ∧ t.reg d = 0xFF#8 ∧ t.sreg = s.sreg ∧ RegisterFrame [d] s t ∧
      PcAdvanced 1 s t) ∧
    (∃ t, exec (.swap d) s = .next t ∧
      t.reg d = (s.reg d).extractLsb' 0 4 ++ (s.reg d).extractLsb' 4 4 ∧ t.sreg = s.sreg ∧
      RegisterFrame [d] s t ∧ PcAdvanced 1 s t)

/-- The six multiplications put the exact product, shifted left by one in the fractional forms, into R1:R0 and write C and
Z alone (41_multiply_des.md R200 to R205, R207). -/
def Obligations.MultiplyForms : Prop :=
  ∀ (d r : Reg) (s : State), s.cfg.core ≠ .avrRc →
    (∃ t, exec (.mul d r) s = .next t ∧ MultipliedTo ((s.reg d).toNat * (s.reg r).toNat : Nat) false s t) ∧
    (∃ t, exec (.muls d r) s = .next t ∧ MultipliedTo ((s.reg d).toInt * (s.reg r).toInt) false s t) ∧
    (∃ t, exec (.mulsu d r) s = .next t ∧ MultipliedTo ((s.reg d).toInt * (s.reg r).toNat) false s t) ∧
    (∃ t, exec (.fmul d r) s = .next t ∧ MultipliedTo ((s.reg d).toNat * (s.reg r).toNat : Nat) true s t) ∧
    (∃ t, exec (.fmuls d r) s = .next t ∧ MultipliedTo ((s.reg d).toInt * (s.reg r).toInt) true s t) ∧
    (∃ t, exec (.fmulsu d r) s = .next t ∧ MultipliedTo ((s.reg d).toInt * (s.reg r).toNat) true s t)

/-- DES performs one round on the data in R7:R0 with the key in R15:R8, H telling the direction, and changes no flag; the
round itself is the free function `Config.desRound`. Sixteen rounds in increasing order leave the DES encryption of the data
in R7:R0 where H is 0, the decryption where H is 1, and of the key in R15:R8 nothing is said (41_multiply_des.md R206,
70_reset_and_hazards.md R465; decision D23, log 10: the tables of DES are PRESUMED). -/
def Obligations.DesRound : Prop :=
  (∀ (K : BitVec 4) (s : State), s.cfg.core ≠ .avrRc →
    ∃ t, exec (.des K) s = .next t ∧
      (blockValue t 0, blockValue t 8) = Config.desRound (blockValue s 0) (blockValue s 8) K s.sreg.h ∧
      t.sreg = s.sreg ∧
      RegisterFrame [0, 1, 2, 3, 4, 5, 6, 7, 8, 9, 10, 11, 12, 13, 14, 15] s t ∧ PcAdvanced 1 s t) ∧
  (∀ s : State, s.cfg.core ≠ .avrRc →
    ∃ t, execAll desProgram s = .next t ∧
      blockValue t 0 =
        (if s.sreg.h then desDecrypt (blockValue s 0) (blockValue s 8) else desEncrypt (blockValue s 0) (blockValue s 8)) ∧
      t.sreg = s.sreg ∧
      RegisterFrame [0, 1, 2, 3, 4, 5, 6, 7, 8, 9, 10, 11, 12, 13, 14, 15] s t ∧ PcAdvanced 16 s t)

/-- ADD on the low bytes followed by ADC on the high bytes is a 16-bit addition, and SUB followed by SBC a 16-bit
subtraction: the result, C, and after the subtraction Z of the whole (a consequence of 40_arithmetic_logic.md R160, R161). -/
def Obligations.WordArithmeticFromBytes : Prop :=
  ∀ (dl dh rl rh : Reg) (s : State), s.hasReg dl = true → s.hasReg dh = true → s.hasReg rl = true →
    s.hasReg rh = true → dl ≠ dh → rh ≠ dl →
    (∃ t u, exec (.add dl rl) s = .next t ∧ exec (.adc dh rh) t = .next u ∧
      u.reg dh ++ u.reg dl = (s.reg dh ++ s.reg dl : Word) + (s.reg rh ++ s.reg rl : Word) ∧
      u.sreg.c = decide (65536 ≤ (s.reg dh ++ s.reg dl : Word).toNat + (s.reg rh ++ s.reg rl : Word).toNat)) ∧
    (∃ t u, exec (.sub dl rl) s = .next t ∧ exec (.sbc dh rh) t = .next u ∧
      u.reg dh ++ u.reg dl = (s.reg dh ++ s.reg dl : Word) - (s.reg rh ++ s.reg rl : Word) ∧
      u.sreg.c = decide ((s.reg dh ++ s.reg dl : Word).toNat < (s.reg rh ++ s.reg rl : Word).toNat) ∧
      u.sreg.z = decide ((s.reg dh ++ s.reg dl : Word) = (s.reg rh ++ s.reg rl : Word)))

/-! ### Bits -/

/-- LSL and ROL: the shifted byte, the six flags, and the frame (45_bit_and_bit_test.md R360, R362). -/
def Obligations.ShiftLeftForms : Prop :=
  ∀ (d : Reg) (s : State), s.hasReg d = true →
    (∃ t, exec (.lsl d) s = .next t ∧ (t.reg d).toNat = 2 * (s.reg d).toNat % 256 ∧
      FlagsOfShiftLeft s.sreg t.sreg (s.reg d) (t.reg d) ∧ RegisterFrame [d] s t ∧ PcAdvanced 1 s t) ∧
    (∃ t, exec (.rol d) s = .next t ∧ (t.reg d).toNat = (2 * (s.reg d).toNat + carryNat s.sreg.c) % 256 ∧
      FlagsOfShiftLeft s.sreg t.sreg (s.reg d) (t.reg d) ∧ RegisterFrame [d] s t ∧ PcAdvanced 1 s t)

/-- LSR, ROR and ASR: the shifted byte, the five flags, H kept, and the frame (45_bit_and_bit_test.md R361, R363, R364,
R388). -/
def Obligations.ShiftRightForms : Prop :=
  ∀ (d : Reg) (s : State), s.hasReg d = true →
    (∃ t, exec (.lsr d) s = .next t ∧ (t.reg d).toNat = (s.reg d).toNat / 2 ∧
      FlagsOfShiftRight s.sreg t.sreg (t.reg d) ((s.reg d).getLsbD 0) ∧ RegisterFrame [d] s t) ∧
    (∃ t, exec (.ror d) s = .next t ∧ (t.reg d).toNat = 128 * carryNat s.sreg.c + (s.reg d).toNat / 2 ∧
      FlagsOfShiftRight s.sreg t.sreg (t.reg d) ((s.reg d).getLsbD 0) ∧ RegisterFrame [d] s t) ∧
    (∃ t, exec (.asr d) s = .next t ∧ (t.reg d).toInt = (s.reg d).toInt / 2 ∧
      FlagsOfShiftRight s.sreg t.sreg (t.reg d) ((s.reg d).getLsbD 0) ∧ RegisterFrame [d] s t)

/-- BST copies a register bit to T, BLD copies T to a register bit and keeps the other seven (45_bit_and_bit_test.md R368,
R369). -/
def Obligations.BitTransferForms : Prop :=
  ∀ (d : Reg) (b : Bit) (s : State), s.hasReg d = true →
    (∃ t, exec (.bst d b) s = .next t ∧ OneFlagIs 6 ((s.reg d).getLsbD b.val) s.sreg t.sreg ∧ RegisterFrame [] s t ∧
      PcAdvanced 1 s t) ∧
    (∃ t, exec (.bld d b) s = .next t ∧ IsWithBit (s.reg d) b s.sreg.t (t.reg d) ∧ t.sreg = s.sreg ∧
      RegisterFrame [d] s t ∧ PcAdvanced 1 s t)

/-- BSET and the eight instructions it stands for set one flag; SEI alone also sets the latch that holds interrupts back for
one instruction (45_bit_and_bit_test.md R370, R372, R374, R376, R378, R380, R382, R384, R386). -/
def Obligations.SetFlagForms : Prop :=
  ∀ (k : Bit) (s : State), ∀ i ∈ [Instr.bset k, setInstr k],
    ∃ t, exec i s = .next t ∧ OneFlagIs k true s.sreg t.sreg ∧ t.irqInhibit = (s.irqInhibit || decide (k = 7)) ∧
      RegisterFrame [] (s.setIrqInhibit t.irqInhibit) t ∧ PcAdvanced 1 s t

/-- BCLR and the eight instructions it stands for clear one flag (45_bit_and_bit_test.md R371, R373, R375, R377, R379,
R381, R383, R385, R387). -/
def Obligations.ClearFlagForms : Prop :=
  ∀ (k : Bit) (s : State), ∀ i ∈ [Instr.bclr k, clearInstr k],
    ∃ t, exec i s = .next t ∧ OneFlagIs k false s.sreg t.sreg ∧ RegisterFrame [] s t ∧ PcAdvanced 1 s t

/-- SBI and CBI write one bit of an I/O location: of the CPU register there, or as a bit write handed to the platform, or,
where the platform has nothing there, not at all (45_bit_and_bit_test.md R366, R367, 20_memory.md R94, R95; decisions D26,
D27, D38, log 31). -/
def Obligations.IoBitWriteForms : Prop :=
  ∀ (A : BitVec 5) (b : Bit) (s : State), ∀ p ∈ [(Instr.sbi A b, true), (Instr.cbi A b, false)],
    match cpuIoAt s.cfg A.toNat with
    | some r =>
      ∃ v, IsWithBit (s.cpuIoRead r) b p.2 v ∧ exec p.1 s = .next ((s.cpuIoWrite r v).advance 1)
    | none =>
      if platformAnswers s .io A.toNat = true then
        exec p.1 s = .next ((s.record (.periphBitWrite .io A.toNat b p.2)).advance 1)
      else exec p.1 s = .fault (.unmappedAccess .io A.toNat)

/-! ### Change of flow -/

/-- RJMP, IJMP, EIJMP and JMP: the target, and nothing else (42_change_of_flow.md R220 to R223; JMP beyond the Program
Counter's width is decision D30, log 13). -/
def Obligations.JumpForms : Prop :=
  ∀ (k : BitVec 12) (a : PcWord) (s : State),
    (∃ t, exec (.rjmp k) s = .next t ∧ PcIs (s.pc.toNat + k.toInt + 1) s t ∧ OnlyPc s t) ∧
    (∃ t, exec .ijmp s = .next t ∧ PcIs (pairValue s 30).toNat s t ∧ OnlyPc s t) ∧
    (∃ t, exec .eijmp s = .next t ∧ PcIs (s.eind ++ pairValue s 30).toNat s t ∧ OnlyPc s t) ∧
    (∃ t, exec (.jmp a) s = .next t ∧ PcIs a.toNat s t ∧ OnlyPc s t)

/-- RCALL, ICALL, EICALL and CALL: with the stack in internal SRAM the address of the next instruction is pushed, the
Program Counter goes to the target and nothing else changes; with any stack the outcome is that of pushing the address
(42_change_of_flow.md R224 to R228; the byte order is decision D8, log 11). -/
def Obligations.CallForms : Prop :=
  ∀ (k : BitVec 12) (a : PcWord) (s : State),
    ∀ p ∈ [(Instr.rcall k, 1, (s.pc.toNat + k.toInt + 1 : Int)), (Instr.icall, 1, ((pairValue s 30).toNat : Int)),
           (Instr.eicall, 1, ((s.eind ++ pairValue s 30).toNat : Int)), (Instr.call a, 2, (a.toNat : Int))],
      (StackRoom s (raBytes s.cfg) →
        ∃ t, exec p.1 s = .next t ∧ ReturnPushed (s.pc.toNat + p.2.1) s t ∧ PcIs p.2.2 s t ∧ KeptAcrossStack s t ∧
          ModeKept s t ∧ t.sreg = s.sreg ∧ t.env = s.env) ∧
      (∀ u, s.pushReturn (s.pc.toNat + p.2.1) = .ok u → exec p.1 s = .next (u.setPc p.2.2)) ∧
      (∀ e, s.pushReturn (s.pc.toNat + p.2.1) = .error e → exec p.1 s = finish (.error e))

/-- RET and RETI: with the return address in internal SRAM the Program Counter goes to it and the Stack Pointer above it;
RETI also sets I on the CPU versions that clear it at entry, and tells the interrupt controller (42_change_of_flow.md R229
to R231, 60_exceptions.md R427; decisions D8 and D12, logs 11 and 22). -/
def Obligations.ReturnForms : Prop :=
  ∀ (b : Nat → Byte) (s : State), StackHolds s b →
    (∃ t, exec .ret s = .next t ∧ PcIs (returnAddress s.cfg b) s t ∧ t.sp.toNat = stackAbove s (raBytes s.cfg) ∧
      KeptAcrossStack s t ∧ SramKept s t ∧ ModeKept s t ∧ t.sreg = s.sreg ∧ t.env = s.env) ∧
    (∃ t, exec .reti s = .next t ∧ PcIs (returnAddress s.cfg b) s t ∧ t.sp.toNat = stackAbove s (raBytes s.cfg) ∧
      KeptAcrossStack s t ∧ SramKept s t ∧ ModeKept s t ∧
      OneFlagIs 7 (servesIFlag s.cfg || s.sreg.i) s.sreg t.sreg ∧
      t.env = { s.env with trace := .returnFromInterrupt :: s.env.trace })

/-- A call followed by RET comes back to the instruction after the call, with the Stack Pointer and every register as
before (42_change_of_flow.md R229, whose `PopRA` is the exact inverse of `PushRA`). -/
def Obligations.CallThenReturn : Prop :=
  ∀ (k : BitVec 12) (a : PcWord) (s : State), s.Inv → StackRoom s (raBytes s.cfg) →
    ∀ p ∈ [(Instr.rcall k, 1), (Instr.icall, 1), (Instr.eicall, 1), (Instr.call a, 2)],
      ∃ t u, exec p.1 s = .next t ∧ exec .ret t = .next u ∧ PcAdvanced p.2 s u ∧ u.sp = s.sp ∧ u.sreg = s.sreg ∧
        KeptAcrossStack s u

/-- CPSE, SBRC and SBRS skip the next instruction, of one word or two, exactly where their condition holds, and change
nothing else (42_change_of_flow.md R232, R233, R237, R238; lengths are decision D24, log 35). -/
def Obligations.RegisterSkips : Prop :=
  ∀ (d r : Reg) (b : Bit) (s : State), s.hasReg d = true → s.hasReg r = true →
    SkipAnswers (decide (s.reg d = s.reg r)) s.env s (exec (.cpse d r) s) ∧
    SkipAnswers (!(s.reg r).getLsbD b.val) s.env s (exec (.sbrc r b) s) ∧
    SkipAnswers ((s.reg r).getLsbD b.val) s.env s (exec (.sbrs r b) s)

/-- SBIC and SBIS read the I/O location once, whether or not they skip (42_change_of_flow.md R239, R240, 20_memory.md R93 to
R95; decision D24, log 35). -/
def Obligations.IoSkips : Prop :=
  ∀ (A : BitVec 5) (b : Bit) (s : State),
    match ioByte s A.toNat with
    | some v =>
      SkipAnswers (!v.getLsbD b.val) (envAfterIoRead s A.toNat) s (exec (.sbic A b) s) ∧
      SkipAnswers (v.getLsbD b.val) (envAfterIoRead s A.toNat) s (exec (.sbis A b) s)
    | none =>
      exec (.sbic A b) s = .fault (.unmappedAccess .io A.toNat) ∧
      exec (.sbis A b) s = .fault (.unmappedAccess .io A.toNat)

/-- Each of the twenty conditional branches goes to `PC + k + 1` exactly where its flag has the value it tests, to `PC + 1`
otherwise, and changes nothing else (42_change_of_flow.md R241 to R261). -/
def Obligations.BranchForms : Prop :=
  ∀ (b : Bit) (k : BitVec 7) (s : State),
    ∀ p ∈ [(Instr.brbs b k, s.sreg.bit b), (Instr.brbc b k, !s.sreg.bit b),
           (Instr.breq k, s.sreg.z), (Instr.brne k, !s.sreg.z), (Instr.brcs k, s.sreg.c), (Instr.brcc k, !s.sreg.c),
           (Instr.brsh k, !s.sreg.c), (Instr.brlo k, s.sreg.c), (Instr.brmi k, s.sreg.n), (Instr.brpl k, !s.sreg.n),
           (Instr.brge k, !s.sreg.s), (Instr.brlt k, s.sreg.s), (Instr.brhs k, s.sreg.h), (Instr.brhc k, !s.sreg.h),
           (Instr.brts k, s.sreg.t), (Instr.brtc k, !s.sreg.t), (Instr.brvs k, s.sreg.v), (Instr.brvc k, !s.sreg.v),
           (Instr.brie k, s.sreg.i), (Instr.brid k, !s.sreg.i)],
      ∃ t, exec p.1 s = .next t ∧ PcIs (s.pc.toNat + (if p.2 then k.toInt else 0) + 1) s t ∧ OnlyPc s t

/-- After CP, SUB, CPI or SUBI the branches decide the comparison their names say, of the numbers as unsigned or as signed
(42_change_of_flow.md R244, R245, R248, R249, R252, R253). -/
def Obligations.BranchAfterCompare : Prop :=
  ∀ (d r : Reg) (K : Byte) (k : BitVec 7) (s : State), s.hasReg d = true → s.hasReg r = true →
    ∀ p ∈ [(Instr.cp d r, s.reg r), (Instr.sub d r, s.reg r), (Instr.cpi d K, K), (Instr.subi d K, K)],
      ∃ t, exec p.1 s = .next t ∧
        ∀ q ∈ [(Instr.breq k, decide (s.reg d = p.2)), (Instr.brne k, decide (s.reg d ≠ p.2)),
               (Instr.brsh k, decide (p.2.toNat ≤ (s.reg d).toNat)), (Instr.brlo k, decide ((s.reg d).toNat < p.2.toNat)),
               (Instr.brge k, decide (p.2.toInt ≤ (s.reg d).toInt)), (Instr.brlt k, decide ((s.reg d).toInt < p.2.toInt))],
          ∃ u, exec q.1 t = .next u ∧ PcIs (t.pc.toNat + (if q.2 then k.toInt else 0) + 1) t u

/-- CP on the low bytes followed by CPC on the high bytes compares two 16-bit numbers: Z where they are equal, C where the
first is below as unsigned, S where it is below as signed (42_change_of_flow.md R235). -/
def Obligations.WordCompareFromBytes : Prop :=
  ∀ (dl dh rl rh : Reg) (s : State), s.hasReg dl = true → s.hasReg dh = true → s.hasReg rl = true →
    s.hasReg rh = true →
    ∃ t u, exec (.cp dl rl) s = .next t ∧ exec (.cpc dh rh) t = .next u ∧
      u.sreg.z = decide ((s.reg dh ++ s.reg dl : Word) = (s.reg rh ++ s.reg rl : Word)) ∧
      u.sreg.c = decide ((s.reg dh ++ s.reg dl : Word).toNat < (s.reg rh ++ s.reg rl : Word).toNat) ∧
      u.sreg.s = decide ((s.reg dh ++ s.reg dl : Word).toInt < (s.reg rh ++ s.reg rl : Word).toInt)

/-! ### Data transfer -/

/-- LD and LDD through a pointer left unchanged: Rd receives the byte of data space, the surroundings see at most one read;
where nothing answers, the step stops (43_data_transfer.md R285, R286, R289, R292, R293, R296; decision D17, log 27). -/
def Obligations.LoadForms : Prop :=
  ∀ (d : Reg) (q : BitVec 6) (s : State), s.hasReg d = true →
    ∀ p ∈ [(Instr.ldX d, s.ptrGet .x), (Instr.ldY d, s.ptrGet .y), (Instr.lddY d q, displaced s .y q.toNat),
           (Instr.ldZ d, s.ptrGet .z), (Instr.lddZ d q, displaced s .z q.toNat)],
      match dataByte s (p.2 % 2 ^ s.cfg.dsBits) with
      | some v =>
        ∃ t, exec p.1 s = .next t ∧ LoadedInto d v (envAfterRead s (p.2 % 2 ^ s.cfg.dsBits)) s t ∧ PcAdvanced 1 s t
      | none => exec p.1 s = .fault (readFault s (p.2 % 2 ^ s.cfg.dsBits))

/-- LD with post-increment and pre-decrement: the byte at the pointer, or at the pointer already decremented, and the
pointer updated at its width; a destination that is one of the pointer's registers stops (43_data_transfer.md R285, R287,
R288, R290, R291, R294, R295; the stop is decision D16, log 14). -/
def Obligations.LoadUpdateForms : Prop :=
  ∀ (d : Reg) (s : State), s.hasReg d = true →
    (∀ p ∈ [(Instr.ldXInc d, Ptr.x), (Instr.ldYInc d, Ptr.y), (Instr.ldZInc d, Ptr.z)],
      if d = p.2.lo ∨ d = p.2.hi then exec p.1 s = .fault (.undefinedOperands s.pc.toNat)
      else ∀ v, dataByte s (s.ptrGet p.2 % 2 ^ s.cfg.dsBits) = some v →
        ∃ t, exec p.1 s = .next t ∧ t.reg d = v ∧ PointerIs p.2 (displaced s p.2 1) s t ∧ PointerFrame p.2 [d] s t ∧
          t.env = envAfterRead s (s.ptrGet p.2 % 2 ^ s.cfg.dsBits) ∧ PcAdvanced 1 s t) ∧
    (∀ p ∈ [(Instr.ldXDec d, Ptr.x), (Instr.ldYDec d, Ptr.y), (Instr.ldZDec d, Ptr.z)],
      if d = p.2.lo ∨ d = p.2.hi then exec p.1 s = .fault (.undefinedOperands s.pc.toNat)
      else ∀ v, dataByte (s.ptrSet p.2 (decremented s p.2)) (decremented s p.2 % 2 ^ s.cfg.dsBits) = some v →
        ∃ t, exec p.1 s = .next t ∧ t.reg d = v ∧ PointerIs p.2 (decremented s p.2) s t ∧ PointerFrame p.2 [d] s t ∧
          t.env = envAfterRead s (decremented s p.2 % 2 ^ s.cfg.dsBits) ∧ PcAdvanced 1 s t)

/-- ST and STD through a pointer left unchanged: the byte of Rr at the address, nothing else; where nothing can be stored
the step stops (43_data_transfer.md R285, R300, R303, R306, R307, R310; decisions D17 and D37, log 27). -/
def Obligations.StoreForms : Prop :=
  ∀ (r : Reg) (q : BitVec 6) (s : State), s.hasReg r = true →
    ∀ p ∈ [(Instr.stX r, s.ptrGet .x), (Instr.stY r, s.ptrGet .y), (Instr.stdY q r, displaced s .y q.toNat),
           (Instr.stZ r, s.ptrGet .z), (Instr.stdZ q r, displaced s .z q.toNat)],
      if writable s (p.2 % 2 ^ s.cfg.dsBits) = true then
        ∃ u, StoredAt (p.2 % 2 ^ s.cfg.dsBits) (s.reg r) s u ∧ exec p.1 s = .next (u.advance 1)
      else exec p.1 s = .fault (writeFault s (p.2 % 2 ^ s.cfg.dsBits))

/-- ST with post-increment and pre-decrement: the store, and the pointer updated after it or before it; a source that is
one of the pointer's registers, and a store that lands on them, stop (43_data_transfer.md R285, R301, R302, R304, R305, R308,
R309, 60_exceptions.md R420; the stops are decision D16, logs 14 and 15: for a pre-decrement store that lands there R420 and D16
are followed, where the text of R302, R305 and R309 has no stop). -/
def Obligations.StoreUpdateForms : Prop :=
  ∀ (r : Reg) (s : State), s.hasReg r = true →
    (∀ p ∈ [(Instr.stXInc r, Ptr.x), (Instr.stYInc r, Ptr.y), (Instr.stZInc r, Ptr.z)],
      if r = p.2.lo ∨ r = p.2.hi ∨ dsMap s.cfg (s.ptrGet p.2 % 2 ^ s.cfg.dsBits) = .reg p.2.lo ∨
          dsMap s.cfg (s.ptrGet p.2 % 2 ^ s.cfg.dsBits) = .reg p.2.hi then
        exec p.1 s = .fault (.undefinedOperands s.pc.toNat)
      else writable s (s.ptrGet p.2 % 2 ^ s.cfg.dsBits) = true →
        ∃ u t, StoredAt (s.ptrGet p.2 % 2 ^ s.cfg.dsBits) (s.reg r) s u ∧ exec p.1 s = .next t ∧
          PointerIs p.2 (displaced s p.2 1) u t ∧ PointerFrame p.2 [] u t ∧ t.env = u.env ∧ PcAdvanced 1 s t) ∧
    (∀ p ∈ [(Instr.stXDec r, Ptr.x), (Instr.stYDec r, Ptr.y), (Instr.stZDec r, Ptr.z)],
      if r = p.2.lo ∨ r = p.2.hi ∨ dsMap s.cfg (decremented s p.2 % 2 ^ s.cfg.dsBits) = .reg p.2.lo ∨
          dsMap s.cfg (decremented s p.2 % 2 ^ s.cfg.dsBits) = .reg p.2.hi then
        exec p.1 s = .fault (.undefinedOperands s.pc.toNat)
      else ∃ w, PointerIs p.2 (decremented s p.2) s w ∧ PointerFrame p.2 [] s w ∧ w.env = s.env ∧ w.pc = s.pc ∧
        (writable w (decremented s p.2 % 2 ^ s.cfg.dsBits) = true →
          ∃ u, StoredAt (decremented s p.2 % 2 ^ s.cfg.dsBits) (s.reg r) w u ∧ exec p.1 s = .next (u.advance 1)))

/-- LDS and STS, of two words with RAMPD above the address, and of one word on AVRrc with its own address coding
(43_data_transfer.md R283, R284, R297 to R299). -/
def Obligations.DirectForms : Prop :=
  ∀ (d : Reg) (k : Word) (j : BitVec 7) (s : State), s.hasReg d = true →
    ∀ p ∈ [(Instr.lds d k, Instr.sts k d, 2, (if s.cfg.hasRampD then (s.rampd ++ k).toNat else k.toNat) % 2 ^ s.cfg.dsBits),
           (Instr.ldsRc d j, Instr.stsRc j d, 1,
             (BitVec.ofBool (!j.getLsbD 4) ++ BitVec.ofBool (j.getLsbD 4) ++ BitVec.ofBool (j.getLsbD 6) ++
               BitVec.ofBool (j.getLsbD 5) ++ j.extractLsb' 0 4).toNat)],
      (match dataByte s p.2.2.2 with
        | some v => ∃ t, exec p.1 s = .next t ∧ LoadedInto d v (envAfterRead s p.2.2.2) s t ∧ PcAdvanced p.2.2.1 s t
        | none => exec p.1 s = .fault (readFault s p.2.2.2)) ∧
      (if writable s p.2.2.2 = true then
        ∃ u, StoredAt p.2.2.2 (s.reg d) s u ∧ exec p.2.1 s = .next (u.advance p.2.2.1)
      else exec p.2.1 s = .fault (writeFault s p.2.2.2))

/-- IN and OUT reach I/O space whatever the data map is: a CPU register, or the platform (43_data_transfer.md R311, R312,
20_memory.md R93, R95; decisions D26 and D38, log 31). -/
def Obligations.InOutForms : Prop :=
  ∀ (d : Reg) (A : BitVec 6) (s : State), s.hasReg d = true →
    (match ioByte s A.toNat with
      | some v => ∃ t, exec (.in_ d A) s = .next t ∧ LoadedInto d v (envAfterIoRead s A.toNat) s t ∧ PcAdvanced 1 s t
      | none => exec (.in_ d A) s = .fault (.unmappedAccess .io A.toNat)) ∧
    (match cpuIoAt s.cfg A.toNat with
      | some r => exec (.out A d) s = .next ((s.cpuIoWrite r (s.reg d)).advance 1)
      | none =>
        if platformAnswers s .io A.toNat = true then
          exec (.out A d) s = .next ((s.record (.periphWrite .io A.toNat (s.reg d))).advance 1)
        else exec (.out A d) s = .fault (.unmappedAccess .io A.toNat))

/-- PUSH stores at the Stack Pointer and then takes one from it, POP adds one and then loads; on a stack in internal SRAM a
POP after a PUSH gives the byte back and restores the Stack Pointer (10_state.md R51, 43_data_transfer.md R313, R314). -/
def Obligations.PushPopForms : Prop :=
  ∀ (d r : Reg) (s : State), s.hasReg d = true → s.hasReg r = true →
    (writable s s.sp.toNat = true →
      ∃ u, StoredAt s.sp.toNat (s.reg r) s u ∧
        exec (.push r) s = .next ((u.setSp ((u.sp.toNat : Int) - 1)).advance 1)) ∧
    (∀ v, dataByte (s.setSp ((s.sp.toNat : Int) + 1)) (s.setSp ((s.sp.toNat : Int) + 1)).sp.toNat = some v →
      ∃ t, exec (.pop d) s = .next t ∧
        LoadedInto d v (envAfterRead s (s.setSp ((s.sp.toNat : Int) + 1)).sp.toNat)
          (s.setSp ((s.sp.toNat : Int) + 1)) t ∧ PcAdvanced 1 s t) ∧
    (StackRoom s 1 →
      ∃ t u, exec (.push r) s = .next t ∧ exec (.pop d) t = .next u ∧ u.reg d = s.reg r ∧ u.sp = s.sp ∧
        RegsKeptBut [d] s u ∧ u.sreg = s.sreg ∧ ∀ a, a ≠ s.sp.toNat → u.sramByte a = s.sramByte a)

/-- XCH, LAS, LAC and LAT on internal SRAM: the register receives the byte of before, the byte becomes the function of
both; anywhere else they stop (43_data_transfer.md R315 to R319; decisions D28 and D40, logs 24 and 25). -/
def Obligations.ReadModifyWriteForms : Prop :=
  ∀ (d : Reg) (s : State), s.hasReg d = true →
    (∀ old, dsMap s.cfg (s.ptrGet .z % 2 ^ s.cfg.dsBits) = .sram →
      s.sramByte (s.ptrGet .z % 2 ^ s.cfg.dsBits) = some old →
      ∀ p ∈ [(Instr.xch d, s.reg d), (Instr.las d, s.reg d ||| old), (Instr.lac d, (0xFF#8 - s.reg d) &&& old),
             (Instr.lat d, s.reg d ^^^ old)],
        ∃ t, exec p.1 s = .next t ∧ t.reg d = old ∧ t.sramByte (s.ptrGet .z % 2 ^ s.cfg.dsBits) = some p.2 ∧
          (∀ a, a ≠ s.ptrGet .z % 2 ^ s.cfg.dsBits → t.sramByte a = s.sramByte a) ∧
          RegsKeptBut [d] s t ∧ t.sreg = s.sreg ∧ t.sp = s.sp ∧ ExtensionsKept s t ∧ ModeKept s t ∧ FlashKept s t ∧
          t.env = s.env ∧ PcAdvanced 1 s t) ∧
    (dsMap s.cfg (s.ptrGet .z % 2 ^ s.cfg.dsBits) ≠ .sram →
      ∀ i ∈ [Instr.xch d, Instr.las d, Instr.lac d, Instr.lat d],
        exec i s = .fault (.rmwOutsideSram (s.ptrGet .z % 2 ^ s.cfg.dsBits)))

/-- A data-space read answers the byte of its region and changes the surroundings alone, or stops with the fault of its
region (20_memory.md R86; the faults are decisions D15, D17 and D38, logs 5 and 27). -/
def Obligations.DataSpaceRead : Prop :=
  ∀ (a : Nat) (s : State),
    match dataByte s a with
    | some v => s.memRead a = .ok (v, s.setEnv (envAfterRead s a))
    | none => s.memRead a = .error (.fault (readFault s a))

/-- A data-space write stores as its region says and changes nothing else, or stops with the fault of its region
(20_memory.md R87; the faults are decisions D17, D37 and D38, log 27). -/
def Obligations.DataSpaceWrite : Prop :=
  ∀ (a : Nat) (v : Byte) (s : State),
    if writable s a = true then ∃ t, s.memWrite a v = .ok t ∧ StoredAt a v s t
    else s.memWrite a v = .error (.fault (writeFault s a))

/-- The CPU registers in I/O space: a write is read back, SPL and SPH kept to the width of SP; no other CPU register
changes, and a write of SREG never sets the latch of SEI (20_memory.md R93, 10_state.md R58). -/
def Obligations.IoRegisters : Prop :=
  ∀ (a : Nat) (r : CpuIo) (v : Byte) (s : State), s.Inv → cpuIoAt s.cfg a = some r →
    s.ioRead a = .ok (s.cpuIoRead r, s) ∧
    ∃ t, s.ioWrite a v = .ok t ∧
      (t.cpuIoRead r).toNat =
        (match r with
          | .spl => v.toNat % 2 ^ s.cfg.spBits
          | .sph => v.toNat % 2 ^ (s.cfg.spBits - 8)
          | _ => v.toNat) ∧
      (∀ r', r' ≠ r → t.cpuIoRead r' = s.cpuIoRead r') ∧
      RegsKeptBut [] s t ∧ ModeKept s t ∧ SramKept s t ∧ FlashKept s t ∧ t.pc = s.pc ∧ t.env = s.env

/-! ### Program memory -/

/-- LPM in its three forms: the byte of program space at Z, RAMPZ playing no part; Z+ adds one to the 16 bits of Z, and
stops where Rd is R30 or R31 (44_program_memory.md R340 to R342, 20_memory.md R98; the stops are decisions D16 and D17,
logs 14 and 27). -/
def Obligations.LpmForms : Prop :=
  ∀ (d : Reg) (s : State), s.hasReg d = true →
    (s.hasReg 0 = true → ProgramLoadAnswers 0 (lpmAddress s) s (exec .lpm s)) ∧
    ProgramLoadAnswers d (lpmAddress s) s (exec (.lpmZ d) s) ∧
    (if d = 30 ∨ d = 31 then exec (.lpmZInc d) s = .fault (.undefinedOperands s.pc.toNat)
     else if lpmAddress s / 2 ≤ s.cfg.flashEnd then
       ∃ t, exec (.lpmZInc d) s = .next t ∧ t.reg d = programByte s (lpmAddress s) ∧
         pairValue t 30 = pairValue s 30 + 1 ∧ RegisterFrame [d, 30, 31] s t ∧ t.sreg = s.sreg ∧ PcAdvanced 1 s t
     else exec (.lpmZInc d) s = .fault (.unmappedAccess .program (lpmAddress s)))

/-- ELPM in its three forms: the byte of program space at RAMPZ:Z; Z+ adds one to the whole of RAMPZ:Z, and stops where Rd
is R30 or R31 (44_program_memory.md R343 to R346, 20_memory.md R98; an absent RAMPZ is decision D35, the stops are decisions
D16 and D17, logs 14, 27 and 29). -/
def Obligations.ElpmForms : Prop :=
  ∀ (d : Reg) (s : State), s.hasReg d = true →
    (s.hasReg 0 = true → ProgramLoadAnswers 0 (elpmAddress s) s (exec .elpm s)) ∧
    ProgramLoadAnswers d (elpmAddress s) s (exec (.elpmZ d) s) ∧
    (if d = 30 ∨ d = 31 then exec (.elpmZInc d) s = .fault (.undefinedOperands s.pc.toNat)
     else if elpmAddress s / 2 ≤ s.cfg.flashEnd then
       ∃ t, exec (.elpmZInc d) s = .next t ∧ t.reg d = programByte s (elpmAddress s) ∧
         elpmAddress t = (elpmAddress s + 1) % (if s.cfg.hasRampZ then 2 ^ 24 else 2 ^ 16) ∧
         RegisterFrame [d, 30, 31] (s.setRampz t.rampz) t ∧ (s.cfg.hasRampZ = false → t.rampz = s.rampz) ∧
         t.sreg = s.sreg ∧ PcAdvanced 1 s t
     else exec (.elpmZInc d) s = .fault (.unmappedAccess .program (elpmAddress s)))

/-- SPM and SPM Z+ are refused wherever they are performed: which operation one of them performs depends on state the
manual does not describe (44_program_memory.md R348 to R351; decision D19, log 17). -/
def Obligations.SpmRefused : Prop :=
  ∀ s : State, exec .spm s = .refused .unmodelledSpm ∧ exec .spmZInc s = .refused .unmodelledSpm

/-! ### MCU control -/

/-- NOP, WDR, SLEEP and BREAK advance the Program Counter; WDR tells the platform, SLEEP goes to sleep, BREAK stops where
the debug system is enabled and is a NOP otherwise; nothing else changes (46_mcu_control.md R410 to R413; decisions D20 and
D21, logs 19 and 20). -/
def Obligations.ControlForms : Prop :=
  ∀ s : State,
    (∃ t, exec .nop s = .next t ∧ OnlyPc s t ∧ PcAdvanced 1 s t) ∧
    (∃ t, exec .wdr s = .next t ∧ OnlyPc (s.record .watchdogRestart) t ∧ PcAdvanced 1 s t) ∧
    (∃ t, exec .sleep s = .next t ∧ OnlyPc (s.setMode .sleeping) t ∧ PcAdvanced 1 s t) ∧
    (∃ t, exec .break_ s = .next t ∧ OnlyPc (if s.cfg.ocdEnabled then s.setMode .stopped else s) t ∧ PcAdvanced 1 s t)

/-! ### The machine -/

/-- A step performs the decoded instruction: where the bytes at the Program Counter decode to an instruction the device has,
all of it inside program memory, a step of a running machine is that instruction performed on the state with the latch
cleared and, where interrupts are enabled, the controller asked and having answered that there is none. -/
def Obligations.StepPerformsDecoded : Prop :=
  ∀ (s : State) (i : Instr) (rest : List Byte), accepted s.cfg = true → s.mode = .running →
    decodeBytes s.cfg.core [s.flashByte (2 * s.pc.toNat), s.flashByte (2 * s.pc.toNat + 1),
      s.flashByte (2 * s.pc.toNat + 2), s.flashByte (2 * s.pc.toNat + 3)] = .ok (i, rest) →
    s.pc.toNat + i.words ≤ s.cfg.flashEnd + 1 → available s.cfg i.mnemonic = true →
    (s.irqInhibit = true ∨ s.sreg.i = false → step s = exec i (s.setIrqInhibit false)) ∧
    (s.irqInhibit = false → s.sreg.i = true → s.nextRequest.1 = none →
      step s = exec i ((s.setIrqInhibit false).setEnv s.nextRequest.2))

/-- The fetch stops, in this order: on a Program Counter beyond FLASHEND, on a word that is no instruction, on an
instruction the device lacks, on a second word beyond FLASHEND (60_exceptions.md R420, 00_scope.md R11; decisions D3, D6
and D7, logs 13 and 28). -/
def Obligations.FetchStops : Prop :=
  ∀ (s : State), accepted s.cfg = true → s.mode = .running → s.sreg.i = false →
    (s.cfg.flashEnd < s.pc.toNat → step s = .fault (.fetchOutOfRange s.pc.toNat)) ∧
    (s.pc.toNat ≤ s.cfg.flashEnd → ∀ e, decodeWords s.cfg.core (s.flashWord s.pc.toNat) 0#16 = .error e →
      step s = .fault (.illegalInstruction s.pc.toNat (s.flashWord s.pc.toNat))) ∧
    (s.pc.toNat ≤ s.cfg.flashEnd → ∀ i, decodeWords s.cfg.core (s.flashWord s.pc.toNat) 0#16 = .ok i →
      (available s.cfg i.mnemonic = false → step s = .fault (.unavailableInstruction s.pc.toNat i.mnemonic)) ∧
      (available s.cfg i.mnemonic = true → i.words = 2 → s.pc.toNat = s.cfg.flashEnd →
        step s = .fault (.fetchOutOfRange (s.pc.toNat + 1))))

/-- The state after reset of every accepted device has the reset values of its configuration, runs, has the latch clear and
nothing in SRAM, and meets the invariant (70_reset_and_hazards.md R450). The zeros of the general registers are the model's
choice (log 4) and are not stated. -/
def Obligations.ResetMeetsInvariant : Prop :=
  (∀ cfg : Config, accepted cfg = true →
    (State.resetOf cfg).Inv ∧ (State.resetOf cfg).pc.toNat = cfg.resetPc ∧
    (State.resetOf cfg).sreg.toByte = cfg.resetSreg ∧ (State.resetOf cfg).sp.toNat = cfg.resetSp ∧
    (State.resetOf cfg).rampx = cfg.resetRampX ∧ (State.resetOf cfg).rampy = cfg.resetRampY ∧
    (State.resetOf cfg).rampz = cfg.resetRampZ ∧ (State.resetOf cfg).rampd = cfg.resetRampD ∧
    (State.resetOf cfg).eind = cfg.resetEind ∧ (State.resetOf cfg).mode = .running ∧
    (State.resetOf cfg).irqInhibit = false ∧ ∀ a, (State.resetOf cfg).sramByte a = none) ∧
  State.reset.Inv

/-- Every step keeps the invariant: the configuration accepted, the Program Counter and the Stack Pointer inside their
widths, both memories in canonical form, SRAM bytes only where the data map has SRAM (10_state.md R40, R47, R50). -/
def Obligations.StepKeepsInvariant : Prop :=
  ∀ s t : State, s.Inv → step s = .next t → t.Inv

/-- No step changes program memory or the configuration; a run starts, of every accepted device and for every image with one
word for each word address 0 to FLASHEND, in the state after reset with that image, which every state of the run holds word for
word (44_program_memory.md R351, 20_memory.md R84, R103, 70_reset_and_hazards.md R454, R455). -/
def Obligations.ProgramMemoryConstant : Prop :=
  (∀ s t : State, step s = .next t → t.pmem = s.pmem ∧ t.cfg = s.cfg) ∧
  (∀ (cfg : Config) (image : List Word), accepted cfg = true → image.length = cfg.flashEnd + 1 →
    ∃ s, State.launch cfg image = some s ∧ s.Inv ∧ { s with pmem := [] } = State.resetOf cfg ∧
      ∀ t, Reaches s t → ∀ (a : Nat) (h : a < image.length), t.flashWord a = image[a])

/-- Interrupt entry: where a boundary finds interrupts enabled and a request, given or free, the step pushes the Program Counter, clears I
on the CPU versions that do so, goes to the vector, a word address up to FLASHEND, leaves sleep and acknowledges; it performs
no instruction (60_exceptions.md R423, R424, R425, R427; decisions D8, D11 and D12, logs 11, 22 and 34). -/
def Obligations.InterruptEntry : Prop :=
  ∀ (s : State) (v : PcWord), accepted s.cfg = true → s.mode ≠ .stopped → s.irqInhibit = false → s.sreg.i = true →
    s.nextRequest.1 = some v → StackRoom s (raBytes s.cfg) →
    v.toNat ≤ s.cfg.flashEnd ∧
    ∃ t, step s = .next t ∧ ReturnPushed s.pc.toNat s t ∧ PcIs v.toNat s t ∧ KeptAcrossStack s t ∧
      t.mode = .running ∧ t.irqInhibit = false ∧ OneFlagIs 7 (!servesIFlag s.cfg) s.sreg t.sreg ∧
      t.env = { s.nextRequest.2 with trace := .acknowledge v :: s.env.trace }

/-- RETI right after an interrupt entry resumes exactly where the interrupt was taken: Program Counter, Stack Pointer,
status and every register as before (60_exceptions.md R425, R427, 42_change_of_flow.md R231). -/
def Obligations.InterruptRoundTrip : Prop :=
  ∀ (s : State) (v : PcWord), s.Inv → s.mode ≠ .stopped →
    s.irqInhibit = false → s.sreg.i = true → s.nextRequest.1 = some v → StackRoom s (raBytes s.cfg) →
    ∃ t u, step s = .next t ∧ exec .reti t = .next u ∧ u.pc = s.pc ∧ u.sp = s.sp ∧ u.sreg = s.sreg ∧
      u.mode = .running ∧ KeptAcrossStack s u

/-- Every instruction but the jumps, calls, returns, skips and branches leaves the Program Counter at the word after it,
whatever its operands are (the `pc <- pc + 1` and `pc <- pc + 2` of its rule; at the last address the wrap of 10_state.md
R47, decision D3, log 13). -/
def Obligations.SequentialAdvance : Prop :=
  ∀ (i : Instr) (s t : State), changesFlow i.mnemonic = false → exec i s = .next t → PcAdvanced i.words s t

/-- SEI lets exactly one more instruction run before a pending request is taken: the step after it performs the instruction
it fetches, and at the boundary after that one the request is taken, unless that instruction disabled interrupts, set the
latch anew or stopped the machine (45_bit_and_bit_test.md R378, 10_state.md R63, 60_exceptions.md R424). -/
def Obligations.SeiShieldsOneInstruction : Prop :=
  ∀ (s t : State) (v : PcWord) (j : Instr), accepted s.cfg = true → s.mode = .running →
    s.nextRequest.1 = some v → exec .sei s = .next t → t.fetch = .ok j →
    step t = exec j (t.setIrqInhibit false) ∧
    ∀ u, step t = .next u → u.irqInhibit = false → u.sreg.i = true → u.mode ≠ .stopped →
      u.boundary = .interrupt v ((u.setIrqInhibit false).setEnv u.nextRequest.2)

/-- Asleep, a step without an interrupt changes nothing but the latch and what the interrupt controller was asked; with a
request it wakes. Stopped, a step changes nothing at all (60_exceptions.md R424, R428; decisions D14 and D22, logs 18
and 19). -/
def Obligations.SleepingAndStopped : Prop :=
  ∀ s : State, accepted s.cfg = true →
    (s.mode = .stopped → step s = .next s) ∧
    (s.mode = .sleeping → s.irqInhibit = true ∨ s.sreg.i = false → step s = .next (s.setIrqInhibit false)) ∧
    (s.mode = .sleeping → s.irqInhibit = false → s.sreg.i = true → s.nextRequest.1 = none →
      step s = .next ((s.setIrqInhibit false).setEnv s.nextRequest.2)) ∧
    (∀ t, s.mode = .sleeping → step s = .next t → t.mode = .running →
      s.irqInhibit = false ∧ s.sreg.i = true ∧ s.nextRequest.1.isSome = true)

/-- No instruction but SLEEP and an enabled BREAK changes the mode, none but SEI (also written BSET 7) sets the latch, none
takes a request from the interrupt controller (10_state.md R62, R63, 60_exceptions.md R424). -/
def Obligations.ModeAndLatchWriters : Prop :=
  ∀ (i : Instr) (s t : State), exec i s = .next t →
    (t.mode ≠ s.mode → i = .sleep ∨ (i = .break_ ∧ s.cfg.ocdEnabled = true)) ∧
    (t.irqInhibit ≠ s.irqInhibit → i = .sei ∨ i = .bset 7) ∧
    t.env.requests = s.env.requests ∧ t.env.asks = s.env.asks

/-- On AVRrc no instruction changes a register below R16. Twenty-three forms stop where the register they name first is one:
Rd of ADD, ADC, SUB, SBC, AND, OR, EOR, CP, CPC, CPSE, COM, NEG, INC, DEC, TST, CLR, LSL, LSR, ROL, ROR, ASR and SWAP, and Rr of
PUSH. Of Rr in the two-register forms, and of the other forms that name a register, the stop is not stated here
(10_state.md R42; decision D29, log 26). -/
def Obligations.ReducedCoreRegisters : Prop :=
  ∀ s : State, s.cfg.core = .avrRc →
    (∀ (i : Instr) (t : State), exec i s = .next t → ∀ n : Reg, n.val < 16 → t.reg n = s.reg n) ∧
    (∀ d r : Reg, d.val < 16 →
      ∀ i ∈ [Instr.add d r, Instr.adc d r, Instr.sub d r, Instr.sbc d r, Instr.and d r, Instr.or d r, Instr.eor d r,
             Instr.cp d r, Instr.cpc d r, Instr.cpse d r, Instr.com d, Instr.neg d, Instr.inc d, Instr.dec d, Instr.tst d,
             Instr.clr d, Instr.lsl d, Instr.lsr d, Instr.rol d, Instr.ror d, Instr.asr d, Instr.swap d, Instr.push d],
        exec i s = .fault (.registerOutOfRange s.pc.toNat d))

/-- A configuration the rules refuse is refused at the first step: EIJMP or EICALL with a Program Counter of at most 16 bits
or without EIND, a RAMP register beside 8-bit data addresses, a register count that is not the CPU version's
(60_exceptions.md R420, 43_data_transfer.md R285, 42_change_of_flow.md R222, R227; EIJMP with a narrow Program Counter is in
the list of 92_eei_decisions.md, log 16). -/
def Obligations.RefusedConfigurations : Prop :=
  ∀ s : State,
    (((available s.cfg .eijmp = true ∨ available s.cfg .eicall = true) ∧ (s.cfg.hasEind = false ∨ s.cfg.pcBits ≤ 16)) ∨
     (s.cfg.dsBits = 8 ∧ (s.cfg.hasRampX = true ∨ s.cfg.hasRampY = true ∨ s.cfg.hasRampZ = true ∨ s.cfg.hasRampD = true)) ∨
     (s.cfg.nregs ≠ if s.cfg.core = .avrRc then 16 else 32)) →
    step s = .refused .configurationRefused

end Statements
end

