-- ==== Sys2Proof/Laws/Memory.lean ====
section
/-! SUPPORT. The laws of memory: a read after a write, every other address left alone, and the canonical form kept. -/

namespace Sys2Proof.Machine

theorem Memory.lookup_insert (m : Memory) (a b : Nat) (v : Byte) :
    Memory.lookup (Memory.insert a v m) b = if b = a then some v else Memory.lookup m b := by
  induction m with
  | nil => simp [Memory.insert, Memory.lookup, eq_comm]
  | cons c t ih =>
    obtain ⟨k, x⟩ := c
    simp only [Memory.insert]
    split
    · simp [Memory.lookup, eq_comm]
    · split
      · rename_i h; subst h
        by_cases hb : b = k
        · simp [Memory.lookup, hb]
        · have : ¬ k = b := fun e => hb e.symm
          simp [Memory.lookup, hb, this]
      · rename_i h
        simp only [Memory.lookup, ih]
        by_cases hk : k = b
        · subst hk; simp [h]
        · simp [hk]

theorem Memory.lookup_erase (m : Memory) (a b : Nat) :
    Memory.lookup (Memory.erase a m) b = if b = a then none else Memory.lookup m b := by
  induction m with
  | nil => simp [Memory.erase, Memory.lookup]
  | cons c t ih =>
    obtain ⟨k, x⟩ := c
    simp only [Memory.erase]
    split
    · rename_i h; subst h
      by_cases hb : b = k
      · subst hb; simpa using ih
      · have : ¬ k = b := fun e => hb e.symm
        simp [Memory.lookup, ih, hb, this]
    · rename_i h
      simp only [Memory.lookup, ih]
      by_cases hk : k = b
      · subst hk; simp [h]
      · simp [hk]

/-- A read after a write: the byte written at its address, the byte of before everywhere else. -/
theorem Memory.readByte_writeByte (st : Store) (m : Memory) (a b : Nat) (v : Byte) :
    Memory.readByte st (Memory.writeByte st m a v) b = if b = a then some v else Memory.readByte st m b := by
  by_cases h : unlisted st = some v
  · simp only [Memory.writeByte, h, if_true, Memory.readByte, Memory.lookup_erase]
    by_cases hb : b = a <;> simp [hb]
  · simp only [Memory.writeByte, h, if_false, Memory.readByte, Memory.lookup_insert]
    by_cases hb : b = a <;> simp [hb]

theorem Memory.rising_cons {c : Host.Cell} {m : Memory} :
    Memory.rising (c :: m) = true ↔ (∀ x ∈ m.head?, c.1 < x.1) ∧ Memory.rising m = true := by
  obtain ⟨a, v⟩ := c
  cases m with
  | nil => simp [Memory.rising]
  | cons d t => obtain ⟨b, y⟩ := d; simp [Memory.rising]

theorem Memory.rising_iff (m : Memory) :
    Memory.rising m = true ↔ m.Pairwise (fun x y => x.1 < y.1) := by
  induction m with
  | nil => simp [Memory.rising]
  | cons c t ih =>
    rw [Memory.rising_cons, List.pairwise_cons, ih]
    constructor
    · rintro ⟨h, ht⟩
      refine ⟨?_, ht⟩
      cases t with
      | nil => simp
      | cons d u =>
        have hd : c.1 < d.1 := h d (by simp)
        intro x hx
        rcases List.mem_cons.1 hx with rfl | hx
        · exact hd
        · exact lt_trans hd ((List.pairwise_cons.1 ht).1 x hx)
    · rintro ⟨h, ht⟩
      refine ⟨?_, ht⟩
      intro x hx
      exact h x (List.mem_of_mem_head? hx)

theorem Memory.wf_iff (st : Store) (m : Memory) :
    Memory.wf st m = true ↔ m.Pairwise (fun x y => x.1 < y.1) ∧ ∀ c ∈ m, unlisted st ≠ some c.2 := by
  simp [Memory.wf, Memory.rising_iff]

theorem Memory.mem_insert {m : Memory} {a : Nat} {v : Byte} {c : Host.Cell} (h : c ∈ Memory.insert a v m) :
    c = (a, v) ∨ c ∈ m := by
  induction m with
  | nil => simpa [Memory.insert] using h
  | cons d t ih =>
    obtain ⟨k, x⟩ := d
    simp only [Memory.insert] at h
    split at h
    · rcases List.mem_cons.1 h with h | h <;> simp [h]
    · split at h
      · rcases List.mem_cons.1 h with h | h <;> simp [h]
      · rcases List.mem_cons.1 h with h | h
        · simp [h]
        · rcases ih h with h | h <;> simp [h]

theorem Memory.mem_erase {m : Memory} {a : Nat} {c : Host.Cell} (h : c ∈ Memory.erase a m) : c ∈ m := by
  induction m with
  | nil => simp [Memory.erase] at h
  | cons d t ih =>
    obtain ⟨k, x⟩ := d
    simp only [Memory.erase] at h
    split at h
    · exact List.mem_cons_of_mem _ (ih h)
    · rcases List.mem_cons.1 h with h | h
      · simp [h]
      · exact List.mem_cons_of_mem _ (ih h)

theorem Memory.insert_rising {m : Memory} (a : Nat) (v : Byte) (h : m.Pairwise (fun x y => x.1 < y.1)) :
    (Memory.insert a v m).Pairwise (fun x y => x.1 < y.1) := by
  induction m with
  | nil => simp [Memory.insert]
  | cons d t ih =>
    obtain ⟨k, x⟩ := d
    obtain ⟨hk, ht⟩ := List.pairwise_cons.1 h
    simp only [Memory.insert]
    split
    · rename_i hak
      refine List.pairwise_cons.2 ⟨?_, h⟩
      intro y hy
      rcases List.mem_cons.1 hy with rfl | hy
      · exact hak
      · exact lt_trans hak (hk y hy)
    · split
      · rename_i e; subst e
        exact List.pairwise_cons.2 ⟨hk, ht⟩
      · refine List.pairwise_cons.2 ⟨?_, ih ht⟩
        intro y hy
        rcases Memory.mem_insert hy with rfl | hy
        · simp only; omega
        · exact hk y hy

theorem Memory.erase_rising {m : Memory} (a : Nat) (h : m.Pairwise (fun x y => x.1 < y.1)) :
    (Memory.erase a m).Pairwise (fun x y => x.1 < y.1) := by
  induction m with
  | nil => simp [Memory.erase]
  | cons d t ih =>
    obtain ⟨k, x⟩ := d
    obtain ⟨hk, ht⟩ := List.pairwise_cons.1 h
    simp only [Memory.erase]
    split
    · exact ih ht
    · exact List.pairwise_cons.2 ⟨fun y hy => hk y (Memory.mem_erase hy), ih ht⟩

/-- A write keeps the canonical form. -/
theorem Memory.writeByte_wf (st : Store) (m : Memory) (a : Nat) (v : Byte) (h : Memory.wf st m = true) :
    Memory.wf st (Memory.writeByte st m a v) = true := by
  rw [Memory.wf_iff] at h ⊢
  unfold Memory.writeByte
  split
  · exact ⟨Memory.erase_rising a h.1, fun c hc => h.2 c (Memory.mem_erase hc)⟩
  · rename_i hv
    refine ⟨Memory.insert_rising a v h.1, fun c hc => ?_⟩
    rcases Memory.mem_insert hc with rfl | hc
    · exact hv
    · exact h.2 c hc

/-- An empty memory has the canonical form. -/
theorem Memory.nil_wf (st : Store) : Memory.wf st [] = true := rfl

/-- The addresses listed after a write are those listed before, and the address written. -/
theorem Memory.mem_writeByte {st : Store} {m : Memory} {a : Nat} {v : Byte} {c : Host.Cell}
    (h : c ∈ Memory.writeByte st m a v) : c.1 = a ∨ c ∈ m := by
  unfold Memory.writeByte at h
  split at h
  · exact .inr (Memory.mem_erase h)
  · rcases Memory.mem_insert h with rfl | h
    · exact .inl rfl
    · exact .inr h

end Sys2Proof.Machine
end

