-- ==== Sys2Proof/Laws/Image.lean ====
section
/-! SUPPORT. The laws of a program image: its words are read back, every other byte is left alone, and the canonical form is
kept. -/

namespace Sys2Proof.Machine

/-- Stored bytes are read back in their order, and every other byte is as before. -/
theorem readByte_storeBytes (bs : List Byte) (m : Memory) (a b : Nat) :
    Memory.readByte .program (storeBytes m a bs) b =
      if a ≤ b ∧ b < a + bs.length then bs[b - a]? else Memory.readByte .program m b := by
  induction bs generalizing m a with
  | nil => have : ¬ (a ≤ b ∧ b < a) := by omega
           simp [storeBytes, this]
  | cons v t ih =>
    rw [storeBytes, ih, Memory.readByte_writeByte]
    rcases Nat.lt_trichotomy a b with h | rfl | h
    · obtain ⟨n, rfl⟩ : ∃ n, b = a + 1 + n := ⟨b - (a + 1), by omega⟩
      have h1 : a + 1 + n - a = n + 1 := by omega
      have h2 : a + 1 + n - (a + 1) = n := by omega
      have h3 : a + 1 + n ≠ a := by omega
      simp only [h1, h2, h3, List.length_cons, List.getElem?_cons_succ, if_false]
      refine if_congr ?_ rfl rfl
      omega
    · simp
    · have h1 : b ≠ a := by omega
      have h2 : ¬ (a + 1 ≤ b ∧ b < a + 1 + t.length) := by omega
      have h3 : ¬ (a ≤ b ∧ b < a + (v :: t).length) := by omega
      simp only [h1, h2, h3, if_false]

/-- Stored bytes keep the canonical form. -/
theorem storeBytes_wf (bs : List Byte) (m : Memory) (a : Nat) (h : Memory.wf .program m = true) :
    Memory.wf .program (storeBytes m a bs) = true := by
  induction bs generalizing m a with
  | nil => exact h
  | cons v t ih => exact ih _ _ (Memory.writeByte_wf _ _ _ _ h)

/-- The bytes of an image are the low and the high bytes of its words in turn. -/
theorem getElem?_imageBytes (image : List Word) (a : Nat) :
    (imageBytes image)[2 * a]? = image[a]?.map (·.extractLsb' 0 8) ∧
    (imageBytes image)[2 * a + 1]? = image[a]?.map (·.extractLsb' 8 8) := by
  induction image generalizing a with
  | nil => simp [imageBytes]
  | cons w t ih =>
    cases a with
    | zero => simp [imageBytes]
    | succ a => simpa [imageBytes, Nat.mul_succ] using ih a

/-- An image has two bytes a word. -/
theorem length_imageBytes (image : List Word) : (imageBytes image).length = 2 * image.length := by
  simp [imageBytes, List.length_flatMap, Nat.mul_comm]

/-! What a load leaves alone: everything but program memory. -/

@[simp] theorem State.loadImage_cfg (s : State) (image : List Word) : (s.loadImage image).cfg = s.cfg := rfl
@[simp] theorem State.loadImage_pc (s : State) (image : List Word) : (s.loadImage image).pc = s.pc := rfl
@[simp] theorem State.loadImage_sp (s : State) (image : List Word) : (s.loadImage image).sp = s.sp := rfl
@[simp] theorem State.loadImage_dmem (s : State) (image : List Word) : (s.loadImage image).dmem = s.dmem := rfl

/-- A loaded program memory has the canonical form. -/
theorem State.loadImage_wf (s : State) (image : List Word) : Memory.wf .program (s.loadImage image).pmem = true :=
  storeBytes_wf _ _ _ (Memory.nil_wf _)

/-- Every word of a loaded image is read back (70_reset_and_hazards.md R454). -/
theorem State.loadImage_flashWord (s : State) (image : List Word) (a : Nat) (h : a < image.length) :
    (s.loadImage image).flashWord a = image[a] := by
  have hb := getElem?_imageBytes image a
  have hl := length_imageBytes image
  have h0 : 2 * a < (imageBytes image).length := by omega
  have h1 : 2 * a + 1 < (imageBytes image).length := by omega
  simp only [State.flashWord, State.flashByte, State.loadImage, readByte_storeBytes, Nat.zero_le, Nat.zero_add, h0, h1,
    and_self, if_true, Nat.sub_zero, hb.1, hb.2, List.getElem?_eq_getElem h, Option.map_some, Option.getD_some]
  ext i hi
  simp only [BitVec.getElem_append, BitVec.getElem_extractLsb']
  split
  · simp [BitVec.getLsbD_eq_getElem hi]
  · have : 8 + (i - 8) = i := by omega
    simp [this, BitVec.getLsbD_eq_getElem hi]

end Sys2Proof.Machine
end

