-- ==== Sys2Proof/Laws/State.lean ====
section
/-! SUPPORT. What each update of the state leaves in each field, true by computation, so that no proof unfolds a record
update. -/

namespace Sys2Proof.Machine

@[simp] theorem State.setReg_cfg (s : State) (i : Reg) (v : Byte) : (s.setReg i v).cfg = s.cfg := rfl
@[simp] theorem State.setReg_pc (s : State) (i : Reg) (v : Byte) : (s.setReg i v).pc = s.pc := rfl
@[simp] theorem State.setReg_sreg (s : State) (i : Reg) (v : Byte) : (s.setReg i v).sreg = s.sreg := rfl
@[simp] theorem State.setReg_sp (s : State) (i : Reg) (v : Byte) : (s.setReg i v).sp = s.sp := rfl
@[simp] theorem State.setReg_rampx (s : State) (i : Reg) (v : Byte) : (s.setReg i v).rampx = s.rampx := rfl
@[simp] theorem State.setReg_rampy (s : State) (i : Reg) (v : Byte) : (s.setReg i v).rampy = s.rampy := rfl
@[simp] theorem State.setReg_rampz (s : State) (i : Reg) (v : Byte) : (s.setReg i v).rampz = s.rampz := rfl
@[simp] theorem State.setReg_rampd (s : State) (i : Reg) (v : Byte) : (s.setReg i v).rampd = s.rampd := rfl
@[simp] theorem State.setReg_eind (s : State) (i : Reg) (v : Byte) : (s.setReg i v).eind = s.eind := rfl
@[simp] theorem State.setReg_dmem (s : State) (i : Reg) (v : Byte) : (s.setReg i v).dmem = s.dmem := rfl
@[simp] theorem State.setReg_pmem (s : State) (i : Reg) (v : Byte) : (s.setReg i v).pmem = s.pmem := rfl
@[simp] theorem State.setReg_mode (s : State) (i : Reg) (v : Byte) : (s.setReg i v).mode = s.mode := rfl
@[simp] theorem State.setReg_irqInhibit (s : State) (i : Reg) (v : Byte) : (s.setReg i v).irqInhibit = s.irqInhibit := rfl
@[simp] theorem State.setReg_env (s : State) (i : Reg) (v : Byte) : (s.setReg i v).env = s.env := rfl
@[simp] theorem State.setReg_hasReg (s : State) (i : Reg) (v : Byte) (j : Reg) : (s.setReg i v).hasReg j = s.hasReg j := rfl
@[simp] theorem State.setReg_sramByte (s : State) (i : Reg) (v : Byte) (c : Nat) : (s.setReg i v).sramByte c = s.sramByte c := rfl
@[simp] theorem State.setReg_flashByte (s : State) (i : Reg) (v : Byte) (c : Nat) : (s.setReg i v).flashByte c = s.flashByte c := rfl
@[simp] theorem State.setReg_flashWord (s : State) (i : Reg) (v : Byte) (c : Nat) : (s.setReg i v).flashWord c = s.flashWord c := rfl

@[simp] theorem State.setSreg_cfg (s : State) (f : Sreg) : (s.setSreg f).cfg = s.cfg := rfl
@[simp] theorem State.setSreg_regs (s : State) (f : Sreg) : (s.setSreg f).regs = s.regs := rfl
@[simp] theorem State.setSreg_pc (s : State) (f : Sreg) : (s.setSreg f).pc = s.pc := rfl
@[simp] theorem State.setSreg_sreg (s : State) (f : Sreg) : (s.setSreg f).sreg = f := rfl
@[simp] theorem State.setSreg_sp (s : State) (f : Sreg) : (s.setSreg f).sp = s.sp := rfl
@[simp] theorem State.setSreg_rampx (s : State) (f : Sreg) : (s.setSreg f).rampx = s.rampx := rfl
@[simp] theorem State.setSreg_rampy (s : State) (f : Sreg) : (s.setSreg f).rampy = s.rampy := rfl
@[simp] theorem State.setSreg_rampz (s : State) (f : Sreg) : (s.setSreg f).rampz = s.rampz := rfl
@[simp] theorem State.setSreg_rampd (s : State) (f : Sreg) : (s.setSreg f).rampd = s.rampd := rfl
@[simp] theorem State.setSreg_eind (s : State) (f : Sreg) : (s.setSreg f).eind = s.eind := rfl
@[simp] theorem State.setSreg_dmem (s : State) (f : Sreg) : (s.setSreg f).dmem = s.dmem := rfl
@[simp] theorem State.setSreg_pmem (s : State) (f : Sreg) : (s.setSreg f).pmem = s.pmem := rfl
@[simp] theorem State.setSreg_mode (s : State) (f : Sreg) : (s.setSreg f).mode = s.mode := rfl
@[simp] theorem State.setSreg_irqInhibit (s : State) (f : Sreg) : (s.setSreg f).irqInhibit = s.irqInhibit := rfl
@[simp] theorem State.setSreg_env (s : State) (f : Sreg) : (s.setSreg f).env = s.env := rfl
@[simp] theorem State.setSreg_hasReg (s : State) (f : Sreg) (j : Reg) : (s.setSreg f).hasReg j = s.hasReg j := rfl
@[simp] theorem State.setSreg_reg (s : State) (f : Sreg) (j : Reg) : (s.setSreg f).reg j = s.reg j := rfl
@[simp] theorem State.setSreg_sramByte (s : State) (f : Sreg) (c : Nat) : (s.setSreg f).sramByte c = s.sramByte c := rfl
@[simp] theorem State.setSreg_flashByte (s : State) (f : Sreg) (c : Nat) : (s.setSreg f).flashByte c = s.flashByte c := rfl
@[simp] theorem State.setSreg_flashWord (s : State) (f : Sreg) (c : Nat) : (s.setSreg f).flashWord c = s.flashWord c := rfl

@[simp] theorem State.setPc_cfg (s : State) (v : Int) : (s.setPc v).cfg = s.cfg := rfl
@[simp] theorem State.setPc_regs (s : State) (v : Int) : (s.setPc v).regs = s.regs := rfl
@[simp] theorem State.setPc_sreg (s : State) (v : Int) : (s.setPc v).sreg = s.sreg := rfl
@[simp] theorem State.setPc_sp (s : State) (v : Int) : (s.setPc v).sp = s.sp := rfl
@[simp] theorem State.setPc_rampx (s : State) (v : Int) : (s.setPc v).rampx = s.rampx := rfl
@[simp] theorem State.setPc_rampy (s : State) (v : Int) : (s.setPc v).rampy = s.rampy := rfl
@[simp] theorem State.setPc_rampz (s : State) (v : Int) : (s.setPc v).rampz = s.rampz := rfl
@[simp] theorem State.setPc_rampd (s : State) (v : Int) : (s.setPc v).rampd = s.rampd := rfl
@[simp] theorem State.setPc_eind (s : State) (v : Int) : (s.setPc v).eind = s.eind := rfl
@[simp] theorem State.setPc_dmem (s : State) (v : Int) : (s.setPc v).dmem = s.dmem := rfl
@[simp] theorem State.setPc_pmem (s : State) (v : Int) : (s.setPc v).pmem = s.pmem := rfl
@[simp] theorem State.setPc_mode (s : State) (v : Int) : (s.setPc v).mode = s.mode := rfl
@[simp] theorem State.setPc_irqInhibit (s : State) (v : Int) : (s.setPc v).irqInhibit = s.irqInhibit := rfl
@[simp] theorem State.setPc_env (s : State) (v : Int) : (s.setPc v).env = s.env := rfl
@[simp] theorem State.setPc_hasReg (s : State) (v : Int) (j : Reg) : (s.setPc v).hasReg j = s.hasReg j := rfl
@[simp] theorem State.setPc_reg (s : State) (v : Int) (j : Reg) : (s.setPc v).reg j = s.reg j := rfl
@[simp] theorem State.setPc_sramByte (s : State) (v : Int) (c : Nat) : (s.setPc v).sramByte c = s.sramByte c := rfl
@[simp] theorem State.setPc_flashByte (s : State) (v : Int) (c : Nat) : (s.setPc v).flashByte c = s.flashByte c := rfl
@[simp] theorem State.setPc_flashWord (s : State) (v : Int) (c : Nat) : (s.setPc v).flashWord c = s.flashWord c := rfl

@[simp] theorem State.advance_cfg (s : State) (n : Nat) : (s.advance n).cfg = s.cfg := rfl
@[simp] theorem State.advance_regs (s : State) (n : Nat) : (s.advance n).regs = s.regs := rfl
@[simp] theorem State.advance_sreg (s : State) (n : Nat) : (s.advance n).sreg = s.sreg := rfl
@[simp] theorem State.advance_sp (s : State) (n : Nat) : (s.advance n).sp = s.sp := rfl
@[simp] theorem State.advance_rampx (s : State) (n : Nat) : (s.advance n).rampx = s.rampx := rfl
@[simp] theorem State.advance_rampy (s : State) (n : Nat) : (s.advance n).rampy = s.rampy := rfl
@[simp] theorem State.advance_rampz (s : State) (n : Nat) : (s.advance n).rampz = s.rampz := rfl
@[simp] theorem State.advance_rampd (s : State) (n : Nat) : (s.advance n).rampd = s.rampd := rfl
@[simp] theorem State.advance_eind (s : State) (n : Nat) : (s.advance n).eind = s.eind := rfl
@[simp] theorem State.advance_dmem (s : State) (n : Nat) : (s.advance n).dmem = s.dmem := rfl
@[simp] theorem State.advance_pmem (s : State) (n : Nat) : (s.advance n).pmem = s.pmem := rfl
@[simp] theorem State.advance_mode (s : State) (n : Nat) : (s.advance n).mode = s.mode := rfl
@[simp] theorem State.advance_irqInhibit (s : State) (n : Nat) : (s.advance n).irqInhibit = s.irqInhibit := rfl
@[simp] theorem State.advance_env (s : State) (n : Nat) : (s.advance n).env = s.env := rfl
@[simp] theorem State.advance_hasReg (s : State) (n : Nat) (j : Reg) : (s.advance n).hasReg j = s.hasReg j := rfl
@[simp] theorem State.advance_reg (s : State) (n : Nat) (j : Reg) : (s.advance n).reg j = s.reg j := rfl
@[simp] theorem State.advance_sramByte (s : State) (n : Nat) (c : Nat) : (s.advance n).sramByte c = s.sramByte c := rfl
@[simp] theorem State.advance_flashByte (s : State) (n : Nat) (c : Nat) : (s.advance n).flashByte c = s.flashByte c := rfl
@[simp] theorem State.advance_flashWord (s : State) (n : Nat) (c : Nat) : (s.advance n).flashWord c = s.flashWord c := rfl

@[simp] theorem State.jumpRelative_cfg (s : State) (k : Int) : (s.jumpRelative k).cfg = s.cfg := rfl
@[simp] theorem State.jumpRelative_regs (s : State) (k : Int) : (s.jumpRelative k).regs = s.regs := rfl
@[simp] theorem State.jumpRelative_sreg (s : State) (k : Int) : (s.jumpRelative k).sreg = s.sreg := rfl
@[simp] theorem State.jumpRelative_sp (s : State) (k : Int) : (s.jumpRelative k).sp = s.sp := rfl
@[simp] theorem State.jumpRelative_rampx (s : State) (k : Int) : (s.jumpRelative k).rampx = s.rampx := rfl
@[simp] theorem State.jumpRelative_rampy (s : State) (k : Int) : (s.jumpRelative k).rampy = s.rampy := rfl
@[simp] theorem State.jumpRelative_rampz (s : State) (k : Int) : (s.jumpRelative k).rampz = s.rampz := rfl
@[simp] theorem State.jumpRelative_rampd (s : State) (k : Int) : (s.jumpRelative k).rampd = s.rampd := rfl
@[simp] theorem State.jumpRelative_eind (s : State) (k : Int) : (s.jumpRelative k).eind = s.eind := rfl
@[simp] theorem State.jumpRelative_dmem (s : State) (k : Int) : (s.jumpRelative k).dmem = s.dmem := rfl
@[simp] theorem State.jumpRelative_pmem (s : State) (k : Int) : (s.jumpRelative k).pmem = s.pmem := rfl
@[simp] theorem State.jumpRelative_mode (s : State) (k : Int) : (s.jumpRelative k).mode = s.mode := rfl
@[simp] theorem State.jumpRelative_irqInhibit (s : State) (k : Int) : (s.jumpRelative k).irqInhibit = s.irqInhibit := rfl
@[simp] theorem State.jumpRelative_env (s : State) (k : Int) : (s.jumpRelative k).env = s.env := rfl
@[simp] theorem State.jumpRelative_hasReg (s : State) (k : Int) (j : Reg) : (s.jumpRelative k).hasReg j = s.hasReg j := rfl
@[simp] theorem State.jumpRelative_reg (s : State) (k : Int) (j : Reg) : (s.jumpRelative k).reg j = s.reg j := rfl
@[simp] theorem State.jumpRelative_sramByte (s : State) (k : Int) (c : Nat) : (s.jumpRelative k).sramByte c = s.sramByte c := rfl
@[simp] theorem State.jumpRelative_flashByte (s : State) (k : Int) (c : Nat) : (s.jumpRelative k).flashByte c = s.flashByte c := rfl
@[simp] theorem State.jumpRelative_flashWord (s : State) (k : Int) (c : Nat) : (s.jumpRelative k).flashWord c = s.flashWord c := rfl

@[simp] theorem State.setSp_cfg (s : State) (v : Int) : (s.setSp v).cfg = s.cfg := rfl
@[simp] theorem State.setSp_regs (s : State) (v : Int) : (s.setSp v).regs = s.regs := rfl
@[simp] theorem State.setSp_pc (s : State) (v : Int) : (s.setSp v).pc = s.pc := rfl
@[simp] theorem State.setSp_sreg (s : State) (v : Int) : (s.setSp v).sreg = s.sreg := rfl
@[simp] theorem State.setSp_rampx (s : State) (v : Int) : (s.setSp v).rampx = s.rampx := rfl
@[simp] theorem State.setSp_rampy (s : State) (v : Int) : (s.setSp v).rampy = s.rampy := rfl
@[simp] theorem State.setSp_rampz (s : State) (v : Int) : (s.setSp v).rampz = s.rampz := rfl
@[simp] theorem State.setSp_rampd (s : State) (v : Int) : (s.setSp v).rampd = s.rampd := rfl
@[simp] theorem State.setSp_eind (s : State) (v : Int) : (s.setSp v).eind = s.eind := rfl
@[simp] theorem State.setSp_dmem (s : State) (v : Int) : (s.setSp v).dmem = s.dmem := rfl
@[simp] theorem State.setSp_pmem (s : State) (v : Int) : (s.setSp v).pmem = s.pmem := rfl
@[simp] theorem State.setSp_mode (s : State) (v : Int) : (s.setSp v).mode = s.mode := rfl
@[simp] theorem State.setSp_irqInhibit (s : State) (v : Int) : (s.setSp v).irqInhibit = s.irqInhibit := rfl
@[simp] theorem State.setSp_env (s : State) (v : Int) : (s.setSp v).env = s.env := rfl
@[simp] theorem State.setSp_hasReg (s : State) (v : Int) (j : Reg) : (s.setSp v).hasReg j = s.hasReg j := rfl
@[simp] theorem State.setSp_reg (s : State) (v : Int) (j : Reg) : (s.setSp v).reg j = s.reg j := rfl
@[simp] theorem State.setSp_sramByte (s : State) (v : Int) (c : Nat) : (s.setSp v).sramByte c = s.sramByte c := rfl
@[simp] theorem State.setSp_flashByte (s : State) (v : Int) (c : Nat) : (s.setSp v).flashByte c = s.flashByte c := rfl
@[simp] theorem State.setSp_flashWord (s : State) (v : Int) (c : Nat) : (s.setSp v).flashWord c = s.flashWord c := rfl

@[simp] theorem State.setMode_cfg (s : State) (m : Mode) : (s.setMode m).cfg = s.cfg := rfl
@[simp] theorem State.setMode_regs (s : State) (m : Mode) : (s.setMode m).regs = s.regs := rfl
@[simp] theorem State.setMode_pc (s : State) (m : Mode) : (s.setMode m).pc = s.pc := rfl
@[simp] theorem State.setMode_sreg (s : State) (m : Mode) : (s.setMode m).sreg = s.sreg := rfl
@[simp] theorem State.setMode_sp (s : State) (m : Mode) : (s.setMode m).sp = s.sp := rfl
@[simp] theorem State.setMode_rampx (s : State) (m : Mode) : (s.setMode m).rampx = s.rampx := rfl
@[simp] theorem State.setMode_rampy (s : State) (m : Mode) : (s.setMode m).rampy = s.rampy := rfl
@[simp] theorem State.setMode_rampz (s : State) (m : Mode) : (s.setMode m).rampz = s.rampz := rfl
@[simp] theorem State.setMode_rampd (s : State) (m : Mode) : (s.setMode m).rampd = s.rampd := rfl
@[simp] theorem State.setMode_eind (s : State) (m : Mode) : (s.setMode m).eind = s.eind := rfl
@[simp] theorem State.setMode_dmem (s : State) (m : Mode) : (s.setMode m).dmem = s.dmem := rfl
@[simp] theorem State.setMode_pmem (s : State) (m : Mode) : (s.setMode m).pmem = s.pmem := rfl
@[simp] theorem State.setMode_mode (s : State) (m : Mode) : (s.setMode m).mode = m := rfl
@[simp] theorem State.setMode_irqInhibit (s : State) (m : Mode) : (s.setMode m).irqInhibit = s.irqInhibit := rfl
@[simp] theorem State.setMode_env (s : State) (m : Mode) : (s.setMode m).env = s.env := rfl
@[simp] theorem State.setMode_hasReg (s : State) (m : Mode) (j : Reg) : (s.setMode m).hasReg j = s.hasReg j := rfl
@[simp] theorem State.setMode_reg (s : State) (m : Mode) (j : Reg) : (s.setMode m).reg j = s.reg j := rfl
@[simp] theorem State.setMode_sramByte (s : State) (m : Mode) (c : Nat) : (s.setMode m).sramByte c = s.sramByte c := rfl
@[simp] theorem State.setMode_flashByte (s : State) (m : Mode) (c : Nat) : (s.setMode m).flashByte c = s.flashByte c := rfl
@[simp] theorem State.setMode_flashWord (s : State) (m : Mode) (c : Nat) : (s.setMode m).flashWord c = s.flashWord c := rfl

@[simp] theorem State.setIrqInhibit_cfg (s : State) (x : Bool) : (s.setIrqInhibit x).cfg = s.cfg := rfl
@[simp] theorem State.setIrqInhibit_regs (s : State) (x : Bool) : (s.setIrqInhibit x).regs = s.regs := rfl
@[simp] theorem State.setIrqInhibit_pc (s : State) (x : Bool) : (s.setIrqInhibit x).pc = s.pc := rfl
@[simp] theorem State.setIrqInhibit_sreg (s : State) (x : Bool) : (s.setIrqInhibit x).sreg = s.sreg := rfl
@[simp] theorem State.setIrqInhibit_sp (s : State) (x : Bool) : (s.setIrqInhibit x).sp = s.sp := rfl
@[simp] theorem State.setIrqInhibit_rampx (s : State) (x : Bool) : (s.setIrqInhibit x).rampx = s.rampx := rfl
@[simp] theorem State.setIrqInhibit_rampy (s : State) (x : Bool) : (s.setIrqInhibit x).rampy = s.rampy := rfl
@[simp] theorem State.setIrqInhibit_rampz (s : State) (x : Bool) : (s.setIrqInhibit x).rampz = s.rampz := rfl
@[simp] theorem State.setIrqInhibit_rampd (s : State) (x : Bool) : (s.setIrqInhibit x).rampd = s.rampd := rfl
@[simp] theorem State.setIrqInhibit_eind (s : State) (x : Bool) : (s.setIrqInhibit x).eind = s.eind := rfl
@[simp] theorem State.setIrqInhibit_dmem (s : State) (x : Bool) : (s.setIrqInhibit x).dmem = s.dmem := rfl
@[simp] theorem State.setIrqInhibit_pmem (s : State) (x : Bool) : (s.setIrqInhibit x).pmem = s.pmem := rfl
@[simp] theorem State.setIrqInhibit_mode (s : State) (x : Bool) : (s.setIrqInhibit x).mode = s.mode := rfl
@[simp] theorem State.setIrqInhibit_irqInhibit (s : State) (x : Bool) : (s.setIrqInhibit x).irqInhibit = x := rfl
@[simp] theorem State.setIrqInhibit_env (s : State) (x : Bool) : (s.setIrqInhibit x).env = s.env := rfl
@[simp] theorem State.setIrqInhibit_hasReg (s : State) (x : Bool) (j : Reg) : (s.setIrqInhibit x).hasReg j = s.hasReg j := rfl
@[simp] theorem State.setIrqInhibit_reg (s : State) (x : Bool) (j : Reg) : (s.setIrqInhibit x).reg j = s.reg j := rfl
@[simp] theorem State.setIrqInhibit_sramByte (s : State) (x : Bool) (c : Nat) : (s.setIrqInhibit x).sramByte c = s.sramByte c := rfl
@[simp] theorem State.setIrqInhibit_flashByte (s : State) (x : Bool) (c : Nat) : (s.setIrqInhibit x).flashByte c = s.flashByte c := rfl
@[simp] theorem State.setIrqInhibit_flashWord (s : State) (x : Bool) (c : Nat) : (s.setIrqInhibit x).flashWord c = s.flashWord c := rfl

@[simp] theorem State.setRampx_cfg (s : State) (v : Byte) : (s.setRampx v).cfg = s.cfg := rfl
@[simp] theorem State.setRampx_regs (s : State) (v : Byte) : (s.setRampx v).regs = s.regs := rfl
@[simp] theorem State.setRampx_pc (s : State) (v : Byte) : (s.setRampx v).pc = s.pc := rfl
@[simp] theorem State.setRampx_sreg (s : State) (v : Byte) : (s.setRampx v).sreg = s.sreg := rfl
@[simp] theorem State.setRampx_sp (s : State) (v : Byte) : (s.setRampx v).sp = s.sp := rfl
@[simp] theorem State.setRampx_rampx (s : State) (v : Byte) : (s.setRampx v).rampx = v := rfl
@[simp] theorem State.setRampx_rampy (s : State) (v : Byte) : (s.setRampx v).rampy = s.rampy := rfl
@[simp] theorem State.setRampx_rampz (s : State) (v : Byte) : (s.setRampx v).rampz = s.rampz := rfl
@[simp] theorem State.setRampx_rampd (s : State) (v : Byte) : (s.setRampx v).rampd = s.rampd := rfl
@[simp] theorem State.setRampx_eind (s : State) (v : Byte) : (s.setRampx v).eind = s.eind := rfl
@[simp] theorem State.setRampx_dmem (s : State) (v : Byte) : (s.setRampx v).dmem = s.dmem := rfl
@[simp] theorem State.setRampx_pmem (s : State) (v : Byte) : (s.setRampx v).pmem = s.pmem := rfl
@[simp] theorem State.setRampx_mode (s : State) (v : Byte) : (s.setRampx v).mode = s.mode := rfl
@[simp] theorem State.setRampx_irqInhibit (s : State) (v : Byte) : (s.setRampx v).irqInhibit = s.irqInhibit := rfl
@[simp] theorem State.setRampx_env (s : State) (v : Byte) : (s.setRampx v).env = s.env := rfl
@[simp] theorem State.setRampx_hasReg (s : State) (v : Byte) (j : Reg) : (s.setRampx v).hasReg j = s.hasReg j := rfl
@[simp] theorem State.setRampx_reg (s : State) (v : Byte) (j : Reg) : (s.setRampx v).reg j = s.reg j := rfl
@[simp] theorem State.setRampx_sramByte (s : State) (v : Byte) (c : Nat) : (s.setRampx v).sramByte c = s.sramByte c := rfl
@[simp] theorem State.setRampx_flashByte (s : State) (v : Byte) (c : Nat) : (s.setRampx v).flashByte c = s.flashByte c := rfl
@[simp] theorem State.setRampx_flashWord (s : State) (v : Byte) (c : Nat) : (s.setRampx v).flashWord c = s.flashWord c := rfl

@[simp] theorem State.setRampy_cfg (s : State) (v : Byte) : (s.setRampy v).cfg = s.cfg := rfl
@[simp] theorem State.setRampy_regs (s : State) (v : Byte) : (s.setRampy v).regs = s.regs := rfl
@[simp] theorem State.setRampy_pc (s : State) (v : Byte) : (s.setRampy v).pc = s.pc := rfl
@[simp] theorem State.setRampy_sreg (s : State) (v : Byte) : (s.setRampy v).sreg = s.sreg := rfl
@[simp] theorem State.setRampy_sp (s : State) (v : Byte) : (s.setRampy v).sp = s.sp := rfl
@[simp] theorem State.setRampy_rampx (s : State) (v : Byte) : (s.setRampy v).rampx = s.rampx := rfl
@[simp] theorem State.setRampy_rampy (s : State) (v : Byte) : (s.setRampy v).rampy = v := rfl
@[simp] theorem State.setRampy_rampz (s : State) (v : Byte) : (s.setRampy v).rampz = s.rampz := rfl
@[simp] theorem State.setRampy_rampd (s : State) (v : Byte) : (s.setRampy v).rampd = s.rampd := rfl
@[simp] theorem State.setRampy_eind (s : State) (v : Byte) : (s.setRampy v).eind = s.eind := rfl
@[simp] theorem State.setRampy_dmem (s : State) (v : Byte) : (s.setRampy v).dmem = s.dmem := rfl
@[simp] theorem State.setRampy_pmem (s : State) (v : Byte) : (s.setRampy v).pmem = s.pmem := rfl
@[simp] theorem State.setRampy_mode (s : State) (v : Byte) : (s.setRampy v).mode = s.mode := rfl
@[simp] theorem State.setRampy_irqInhibit (s : State) (v : Byte) : (s.setRampy v).irqInhibit = s.irqInhibit := rfl
@[simp] theorem State.setRampy_env (s : State) (v : Byte) : (s.setRampy v).env = s.env := rfl
@[simp] theorem State.setRampy_hasReg (s : State) (v : Byte) (j : Reg) : (s.setRampy v).hasReg j = s.hasReg j := rfl
@[simp] theorem State.setRampy_reg (s : State) (v : Byte) (j : Reg) : (s.setRampy v).reg j = s.reg j := rfl
@[simp] theorem State.setRampy_sramByte (s : State) (v : Byte) (c : Nat) : (s.setRampy v).sramByte c = s.sramByte c := rfl
@[simp] theorem State.setRampy_flashByte (s : State) (v : Byte) (c : Nat) : (s.setRampy v).flashByte c = s.flashByte c := rfl
@[simp] theorem State.setRampy_flashWord (s : State) (v : Byte) (c : Nat) : (s.setRampy v).flashWord c = s.flashWord c := rfl

@[simp] theorem State.setRampz_cfg (s : State) (v : Byte) : (s.setRampz v).cfg = s.cfg := rfl
@[simp] theorem State.setRampz_regs (s : State) (v : Byte) : (s.setRampz v).regs = s.regs := rfl
@[simp] theorem State.setRampz_pc (s : State) (v : Byte) : (s.setRampz v).pc = s.pc := rfl
@[simp] theorem State.setRampz_sreg (s : State) (v : Byte) : (s.setRampz v).sreg = s.sreg := rfl
@[simp] theorem State.setRampz_sp (s : State) (v : Byte) : (s.setRampz v).sp = s.sp := rfl
@[simp] theorem State.setRampz_rampx (s : State) (v : Byte) : (s.setRampz v).rampx = s.rampx := rfl
@[simp] theorem State.setRampz_rampy (s : State) (v : Byte) : (s.setRampz v).rampy = s.rampy := rfl
@[simp] theorem State.setRampz_rampz (s : State) (v : Byte) : (s.setRampz v).rampz = v := rfl
@[simp] theorem State.setRampz_rampd (s : State) (v : Byte) : (s.setRampz v).rampd = s.rampd := rfl
@[simp] theorem State.setRampz_eind (s : State) (v : Byte) : (s.setRampz v).eind = s.eind := rfl
@[simp] theorem State.setRampz_dmem (s : State) (v : Byte) : (s.setRampz v).dmem = s.dmem := rfl
@[simp] theorem State.setRampz_pmem (s : State) (v : Byte) : (s.setRampz v).pmem = s.pmem := rfl
@[simp] theorem State.setRampz_mode (s : State) (v : Byte) : (s.setRampz v).mode = s.mode := rfl
@[simp] theorem State.setRampz_irqInhibit (s : State) (v : Byte) : (s.setRampz v).irqInhibit = s.irqInhibit := rfl
@[simp] theorem State.setRampz_env (s : State) (v : Byte) : (s.setRampz v).env = s.env := rfl
@[simp] theorem State.setRampz_hasReg (s : State) (v : Byte) (j : Reg) : (s.setRampz v).hasReg j = s.hasReg j := rfl
@[simp] theorem State.setRampz_reg (s : State) (v : Byte) (j : Reg) : (s.setRampz v).reg j = s.reg j := rfl
@[simp] theorem State.setRampz_sramByte (s : State) (v : Byte) (c : Nat) : (s.setRampz v).sramByte c = s.sramByte c := rfl
@[simp] theorem State.setRampz_flashByte (s : State) (v : Byte) (c : Nat) : (s.setRampz v).flashByte c = s.flashByte c := rfl
@[simp] theorem State.setRampz_flashWord (s : State) (v : Byte) (c : Nat) : (s.setRampz v).flashWord c = s.flashWord c := rfl

@[simp] theorem State.setRampd_cfg (s : State) (v : Byte) : (s.setRampd v).cfg = s.cfg := rfl
@[simp] theorem State.setRampd_regs (s : State) (v : Byte) : (s.setRampd v).regs = s.regs := rfl
@[simp] theorem State.setRampd_pc (s : State) (v : Byte) : (s.setRampd v).pc = s.pc := rfl
@[simp] theorem State.setRampd_sreg (s : State) (v : Byte) : (s.setRampd v).sreg = s.sreg := rfl
@[simp] theorem State.setRampd_sp (s : State) (v : Byte) : (s.setRampd v).sp = s.sp := rfl
@[simp] theorem State.setRampd_rampx (s : State) (v : Byte) : (s.setRampd v).rampx = s.rampx := rfl
@[simp] theorem State.setRampd_rampy (s : State) (v : Byte) : (s.setRampd v).rampy = s.rampy := rfl
@[simp] theorem State.setRampd_rampz (s : State) (v : Byte) : (s.setRampd v).rampz = s.rampz := rfl
@[simp] theorem State.setRampd_rampd (s : State) (v : Byte) : (s.setRampd v).rampd = v := rfl
@[simp] theorem State.setRampd_eind (s : State) (v : Byte) : (s.setRampd v).eind = s.eind := rfl
@[simp] theorem State.setRampd_dmem (s : State) (v : Byte) : (s.setRampd v).dmem = s.dmem := rfl
@[simp] theorem State.setRampd_pmem (s : State) (v : Byte) : (s.setRampd v).pmem = s.pmem := rfl
@[simp] theorem State.setRampd_mode (s : State) (v : Byte) : (s.setRampd v).mode = s.mode := rfl
@[simp] theorem State.setRampd_irqInhibit (s : State) (v : Byte) : (s.setRampd v).irqInhibit = s.irqInhibit := rfl
@[simp] theorem State.setRampd_env (s : State) (v : Byte) : (s.setRampd v).env = s.env := rfl
@[simp] theorem State.setRampd_hasReg (s : State) (v : Byte) (j : Reg) : (s.setRampd v).hasReg j = s.hasReg j := rfl
@[simp] theorem State.setRampd_reg (s : State) (v : Byte) (j : Reg) : (s.setRampd v).reg j = s.reg j := rfl
@[simp] theorem State.setRampd_sramByte (s : State) (v : Byte) (c : Nat) : (s.setRampd v).sramByte c = s.sramByte c := rfl
@[simp] theorem State.setRampd_flashByte (s : State) (v : Byte) (c : Nat) : (s.setRampd v).flashByte c = s.flashByte c := rfl
@[simp] theorem State.setRampd_flashWord (s : State) (v : Byte) (c : Nat) : (s.setRampd v).flashWord c = s.flashWord c := rfl

@[simp] theorem State.setEind_cfg (s : State) (v : Byte) : (s.setEind v).cfg = s.cfg := rfl
@[simp] theorem State.setEind_regs (s : State) (v : Byte) : (s.setEind v).regs = s.regs := rfl
@[simp] theorem State.setEind_pc (s : State) (v : Byte) : (s.setEind v).pc = s.pc := rfl
@[simp] theorem State.setEind_sreg (s : State) (v : Byte) : (s.setEind v).sreg = s.sreg := rfl
@[simp] theorem State.setEind_sp (s : State) (v : Byte) : (s.setEind v).sp = s.sp := rfl
@[simp] theorem State.setEind_rampx (s : State) (v : Byte) : (s.setEind v).rampx = s.rampx := rfl
@[simp] theorem State.setEind_rampy (s : State) (v : Byte) : (s.setEind v).rampy = s.rampy := rfl
@[simp] theorem State.setEind_rampz (s : State) (v : Byte) : (s.setEind v).rampz = s.rampz := rfl
@[simp] theorem State.setEind_rampd (s : State) (v : Byte) : (s.setEind v).rampd = s.rampd := rfl
@[simp] theorem State.setEind_eind (s : State) (v : Byte) : (s.setEind v).eind = v := rfl
@[simp] theorem State.setEind_dmem (s : State) (v : Byte) : (s.setEind v).dmem = s.dmem := rfl
@[simp] theorem State.setEind_pmem (s : State) (v : Byte) : (s.setEind v).pmem = s.pmem := rfl
@[simp] theorem State.setEind_mode (s : State) (v : Byte) : (s.setEind v).mode = s.mode := rfl
@[simp] theorem State.setEind_irqInhibit (s : State) (v : Byte) : (s.setEind v).irqInhibit = s.irqInhibit := rfl
@[simp] theorem State.setEind_env (s : State) (v : Byte) : (s.setEind v).env = s.env := rfl
@[simp] theorem State.setEind_hasReg (s : State) (v : Byte) (j : Reg) : (s.setEind v).hasReg j = s.hasReg j := rfl
@[simp] theorem State.setEind_reg (s : State) (v : Byte) (j : Reg) : (s.setEind v).reg j = s.reg j := rfl
@[simp] theorem State.setEind_sramByte (s : State) (v : Byte) (c : Nat) : (s.setEind v).sramByte c = s.sramByte c := rfl
@[simp] theorem State.setEind_flashByte (s : State) (v : Byte) (c : Nat) : (s.setEind v).flashByte c = s.flashByte c := rfl
@[simp] theorem State.setEind_flashWord (s : State) (v : Byte) (c : Nat) : (s.setEind v).flashWord c = s.flashWord c := rfl

@[simp] theorem State.setEnv_cfg (s : State) (e : Env) : (s.setEnv e).cfg = s.cfg := rfl
@[simp] theorem State.setEnv_regs (s : State) (e : Env) : (s.setEnv e).regs = s.regs := rfl
@[simp] theorem State.setEnv_pc (s : State) (e : Env) : (s.setEnv e).pc = s.pc := rfl
@[simp] theorem State.setEnv_sreg (s : State) (e : Env) : (s.setEnv e).sreg = s.sreg := rfl
@[simp] theorem State.setEnv_sp (s : State) (e : Env) : (s.setEnv e).sp = s.sp := rfl
@[simp] theorem State.setEnv_rampx (s : State) (e : Env) : (s.setEnv e).rampx = s.rampx := rfl
@[simp] theorem State.setEnv_rampy (s : State) (e : Env) : (s.setEnv e).rampy = s.rampy := rfl
@[simp] theorem State.setEnv_rampz (s : State) (e : Env) : (s.setEnv e).rampz = s.rampz := rfl
@[simp] theorem State.setEnv_rampd (s : State) (e : Env) : (s.setEnv e).rampd = s.rampd := rfl
@[simp] theorem State.setEnv_eind (s : State) (e : Env) : (s.setEnv e).eind = s.eind := rfl
@[simp] theorem State.setEnv_dmem (s : State) (e : Env) : (s.setEnv e).dmem = s.dmem := rfl
@[simp] theorem State.setEnv_pmem (s : State) (e : Env) : (s.setEnv e).pmem = s.pmem := rfl
@[simp] theorem State.setEnv_mode (s : State) (e : Env) : (s.setEnv e).mode = s.mode := rfl
@[simp] theorem State.setEnv_irqInhibit (s : State) (e : Env) : (s.setEnv e).irqInhibit = s.irqInhibit := rfl
@[simp] theorem State.setEnv_env (s : State) (e : Env) : (s.setEnv e).env = e := rfl
@[simp] theorem State.setEnv_hasReg (s : State) (e : Env) (j : Reg) : (s.setEnv e).hasReg j = s.hasReg j := rfl
@[simp] theorem State.setEnv_reg (s : State) (e : Env) (j : Reg) : (s.setEnv e).reg j = s.reg j := rfl
@[simp] theorem State.setEnv_sramByte (s : State) (e : Env) (c : Nat) : (s.setEnv e).sramByte c = s.sramByte c := rfl
@[simp] theorem State.setEnv_flashByte (s : State) (e : Env) (c : Nat) : (s.setEnv e).flashByte c = s.flashByte c := rfl
@[simp] theorem State.setEnv_flashWord (s : State) (e : Env) (c : Nat) : (s.setEnv e).flashWord c = s.flashWord c := rfl

@[simp] theorem State.record_cfg (s : State) (e : Event) : (s.record e).cfg = s.cfg := rfl
@[simp] theorem State.record_regs (s : State) (e : Event) : (s.record e).regs = s.regs := rfl
@[simp] theorem State.record_pc (s : State) (e : Event) : (s.record e).pc = s.pc := rfl
@[simp] theorem State.record_sreg (s : State) (e : Event) : (s.record e).sreg = s.sreg := rfl
@[simp] theorem State.record_sp (s : State) (e : Event) : (s.record e).sp = s.sp := rfl
@[simp] theorem State.record_rampx (s : State) (e : Event) : (s.record e).rampx = s.rampx := rfl
@[simp] theorem State.record_rampy (s : State) (e : Event) : (s.record e).rampy = s.rampy := rfl
@[simp] theorem State.record_rampz (s : State) (e : Event) : (s.record e).rampz = s.rampz := rfl
@[simp] theorem State.record_rampd (s : State) (e : Event) : (s.record e).rampd = s.rampd := rfl
@[simp] theorem State.record_eind (s : State) (e : Event) : (s.record e).eind = s.eind := rfl
@[simp] theorem State.record_dmem (s : State) (e : Event) : (s.record e).dmem = s.dmem := rfl
@[simp] theorem State.record_pmem (s : State) (e : Event) : (s.record e).pmem = s.pmem := rfl
@[simp] theorem State.record_mode (s : State) (e : Event) : (s.record e).mode = s.mode := rfl
@[simp] theorem State.record_irqInhibit (s : State) (e : Event) : (s.record e).irqInhibit = s.irqInhibit := rfl
@[simp] theorem State.record_hasReg (s : State) (e : Event) (j : Reg) : (s.record e).hasReg j = s.hasReg j := rfl
@[simp] theorem State.record_reg (s : State) (e : Event) (j : Reg) : (s.record e).reg j = s.reg j := rfl
@[simp] theorem State.record_sramByte (s : State) (e : Event) (c : Nat) : (s.record e).sramByte c = s.sramByte c := rfl
@[simp] theorem State.record_flashByte (s : State) (e : Event) (c : Nat) : (s.record e).flashByte c = s.flashByte c := rfl
@[simp] theorem State.record_flashWord (s : State) (e : Event) (c : Nat) : (s.record e).flashWord c = s.flashWord c := rfl

@[simp] theorem State.setSramByte_cfg (s : State) (a : Nat) (v : Byte) : (s.setSramByte a v).cfg = s.cfg := rfl
@[simp] theorem State.setSramByte_regs (s : State) (a : Nat) (v : Byte) : (s.setSramByte a v).regs = s.regs := rfl
@[simp] theorem State.setSramByte_pc (s : State) (a : Nat) (v : Byte) : (s.setSramByte a v).pc = s.pc := rfl
@[simp] theorem State.setSramByte_sreg (s : State) (a : Nat) (v : Byte) : (s.setSramByte a v).sreg = s.sreg := rfl
@[simp] theorem State.setSramByte_sp (s : State) (a : Nat) (v : Byte) : (s.setSramByte a v).sp = s.sp := rfl
@[simp] theorem State.setSramByte_rampx (s : State) (a : Nat) (v : Byte) : (s.setSramByte a v).rampx = s.rampx := rfl
@[simp] theorem State.setSramByte_rampy (s : State) (a : Nat) (v : Byte) : (s.setSramByte a v).rampy = s.rampy := rfl
@[simp] theorem State.setSramByte_rampz (s : State) (a : Nat) (v : Byte) : (s.setSramByte a v).rampz = s.rampz := rfl
@[simp] theorem State.setSramByte_rampd (s : State) (a : Nat) (v : Byte) : (s.setSramByte a v).rampd = s.rampd := rfl
@[simp] theorem State.setSramByte_eind (s : State) (a : Nat) (v : Byte) : (s.setSramByte a v).eind = s.eind := rfl
@[simp] theorem State.setSramByte_pmem (s : State) (a : Nat) (v : Byte) : (s.setSramByte a v).pmem = s.pmem := rfl
@[simp] theorem State.setSramByte_mode (s : State) (a : Nat) (v : Byte) : (s.setSramByte a v).mode = s.mode := rfl
@[simp] theorem State.setSramByte_irqInhibit (s : State) (a : Nat) (v : Byte) : (s.setSramByte a v).irqInhibit = s.irqInhibit := rfl
@[simp] theorem State.setSramByte_env (s : State) (a : Nat) (v : Byte) : (s.setSramByte a v).env = s.env := rfl
@[simp] theorem State.setSramByte_hasReg (s : State) (a : Nat) (v : Byte) (j : Reg) : (s.setSramByte a v).hasReg j = s.hasReg j := rfl
@[simp] theorem State.setSramByte_reg (s : State) (a : Nat) (v : Byte) (j : Reg) : (s.setSramByte a v).reg j = s.reg j := rfl
@[simp] theorem State.setSramByte_flashByte (s : State) (a : Nat) (v : Byte) (c : Nat) : (s.setSramByte a v).flashByte c = s.flashByte c := rfl
@[simp] theorem State.setSramByte_flashWord (s : State) (a : Nat) (v : Byte) (c : Nat) : (s.setSramByte a v).flashWord c = s.flashWord c := rfl


theorem State.setReg_reg (s : State) (i : Reg) (v : Byte) (j : Reg) :
    (s.setReg i v).reg j = if j = i then v else s.reg j := by
  by_cases h : j = i
  · subst h; simp [State.setReg, State.reg]
  · have : i.val ≠ j.val := fun e => h (Fin.ext e.symm)
    simp [State.setReg, State.reg, h, this]

@[simp] theorem State.setReg_reg_self (s : State) (i : Reg) (v : Byte) : (s.setReg i v).reg i = v := by
  simp [State.setReg_reg]

theorem State.setReg_reg_of_ne (s : State) {i j : Reg} (v : Byte) (h : j ≠ i) : (s.setReg i v).reg j = s.reg j := by
  simp [State.setReg_reg, h]

@[simp] theorem State.setEnv_self (s : State) : s.setEnv s.env = s := rfl

@[simp] theorem State.setEnv_setEnv (s : State) (e f : Env) : (s.setEnv e).setEnv f = s.setEnv f := rfl

/-- The Program Counter after `pc <- v` (10_state.md R47). -/
theorem State.setPc_pc_toNat (s : State) (v : Int) (h : s.cfg.pcBits ≤ 22) :
    ((s.setPc v).pc.toNat : Int) = v % ((2 ^ s.cfg.pcBits : Nat) : Int) := by
  have hpos : (0 : Int) < ((2 ^ s.cfg.pcBits : Nat) : Int) := by positivity
  have h0 := Int.emod_nonneg v (ne_of_gt hpos)
  have h1 := Int.emod_lt_of_pos v hpos
  have h2 : 2 ^ s.cfg.pcBits ≤ 2 ^ 22 := Nat.pow_le_pow_right (by norm_num) h
  have h3 : ((v % ((2 ^ s.cfg.pcBits : Nat) : Int)).toNat : Int) = v % ((2 ^ s.cfg.pcBits : Nat) : Int) :=
    Int.toNat_of_nonneg h0
  simp only [State.setPc, BitVec.toNat_ofNat]
  rw [Nat.mod_eq_of_lt (by omega), h3]

/-- The Program Counter stays inside its width (10_state.md R47). -/
theorem State.setPc_pc_lt (s : State) (v : Int) (h : s.cfg.pcBits ≤ 22) :
    (s.setPc v).pc.toNat < 2 ^ s.cfg.pcBits := by
  have hpos : (0 : Int) < ((2 ^ s.cfg.pcBits : Nat) : Int) := by positivity
  have := State.setPc_pc_toNat s v h
  have h1 := Int.emod_lt_of_pos v hpos
  omega

/-- The Stack Pointer after `SP <- v` (10_state.md R50). -/
theorem State.setSp_sp_toNat (s : State) (v : Int) (h : s.cfg.spBits ≤ 16) :
    ((s.setSp v).sp.toNat : Int) = v % ((2 ^ s.cfg.spBits : Nat) : Int) := by
  have hpos : (0 : Int) < ((2 ^ s.cfg.spBits : Nat) : Int) := by positivity
  have h0 := Int.emod_nonneg v (ne_of_gt hpos)
  have h1 := Int.emod_lt_of_pos v hpos
  have h2 : 2 ^ s.cfg.spBits ≤ 2 ^ 16 := Nat.pow_le_pow_right (by norm_num) h
  have h3 : ((v % ((2 ^ s.cfg.spBits : Nat) : Int)).toNat : Int) = v % ((2 ^ s.cfg.spBits : Nat) : Int) :=
    Int.toNat_of_nonneg h0
  simp only [State.setSp, BitVec.toNat_ofNat]
  rw [Nat.mod_eq_of_lt (by omega), h3]

/-- The Stack Pointer stays inside its width (10_state.md R50). -/
theorem State.setSp_sp_lt (s : State) (v : Int) (h : s.cfg.spBits ≤ 16) :
    (s.setSp v).sp.toNat < 2 ^ s.cfg.spBits := by
  have hpos : (0 : Int) < ((2 ^ s.cfg.spBits : Nat) : Int) := by positivity
  have := State.setSp_sp_toNat s v h
  have h1 := Int.emod_lt_of_pos v hpos
  omega

end Sys2Proof.Machine
end

