-- ==== Sys2Proof/Laws/Ops.lean ====
section
/-! SUPPORT. For each shared operation, one lemma that says once everything it can do. -/

namespace Sys2Proof.Machine

@[simp] theorem raise_ne_ok {α : Type} (f : Fault) (x : α) : (raise f : Res α) ≠ .ok x := by simp [raise]

/-- A monadic composition that answers: both parts answer. -/
theorem Res.bind_ok {α β : Type} {x : Res α} {g : α → Res β} {b : β} :
    (x >>= g) = .ok b ↔ ∃ a, x = .ok a ∧ g a = .ok b := by
  cases x with
  | error e => simp [bind, Except.bind]
  | ok a => simp [bind, Except.bind]

@[simp] theorem Res.pure_bind {α β : Type} (a : α) (g : α → Res β) : ((.ok a : Res α) >>= g) = g a := rfl

theorem finish_next {r : Res State} {t : State} : finish r = .next t ↔ r = .ok t := by
  cases r with
  | ok s => simp [finish]
  | error e => cases e <;> simp [finish]

@[simp] theorem finish_ok (t : State) : finish (.ok t) = .next t := rfl

theorem State.readReg_ok {s : State} {i : Reg} {v : Byte} :
    s.readReg i = .ok v ↔ s.hasReg i = true ∧ s.reg i = v := by
  unfold State.readReg; split <;> simp_all

theorem State.readReg_of_hasReg {s : State} {i : Reg} (h : s.hasReg i = true) : s.readReg i = .ok (s.reg i) := by
  simp [State.readReg, h]

theorem State.writeReg_ok {s t : State} {i : Reg} {v : Byte} :
    s.writeReg i v = .ok t ↔ s.hasReg i = true ∧ s.setReg i v = t := by
  unfold State.writeReg; split <;> simp_all

theorem State.writeReg_of_hasReg {s : State} {i : Reg} (v : Byte) (h : s.hasReg i = true) :
    s.writeReg i v = .ok (s.setReg i v) := by
  simp [State.writeReg, h]

theorem State.readPair_ok {s : State} {i : Reg} {v : Word} :
    s.readPair i = .ok v ↔ s.hasReg i = true ∧ s.hasReg (i + 1) = true ∧ s.reg (i + 1) ++ s.reg i = v := by
  unfold State.readPair
  simp only [Res.bind_ok, State.readReg_ok]
  constructor
  · rintro ⟨a, ⟨h1, rfl⟩, b, ⟨h2, rfl⟩, h⟩; exact ⟨h1, h2, by simpa [pure, Except.pure] using h⟩
  · rintro ⟨h1, h2, rfl⟩; exact ⟨_, ⟨h1, rfl⟩, _, ⟨h2, rfl⟩, rfl⟩

theorem State.writePair_ok {s t : State} {i : Reg} {v : Word} :
    s.writePair i v = .ok t ↔ s.hasReg i = true ∧ s.hasReg (i + 1) = true ∧
      (s.setReg i (v.extractLsb' 0 8)).setReg (i + 1) (v.extractLsb' 8 8) = t := by
  unfold State.writePair
  simp only [Res.bind_ok, State.writeReg_ok]
  constructor
  · rintro ⟨a, ⟨h1, rfl⟩, h2, rfl⟩; exact ⟨h1, by simpa using h2, rfl⟩
  · rintro ⟨h1, h2, rfl⟩; exact ⟨_, ⟨h1, rfl⟩, by simpa using h2, rfl⟩

/-- A platform read that answers: the next byte, one event, nothing else (20_memory.md R95). -/
theorem State.periphRead_ok {s u : State} {sp : Space} {a : Nat} {v : Byte} :
    s.periphRead sp a = .ok (v, u) ↔ s.isAbsent sp a = false ∧ v = s.env.nextByte.1 ∧
      u = (s.setEnv s.env.nextByte.2).record (.periphRead sp a s.env.nextByte.1) := by
  unfold State.periphRead
  cases h : s.isAbsent sp a <;> simp [raise, eq_comm]

/-- A read of an I/O location that answers changes the surroundings alone (20_memory.md R93). -/
theorem State.ioRead_env {s u : State} {a : Nat} {v : Byte} (h : s.ioRead a = .ok (v, u)) :
    u = s.setEnv u.env := by
  unfold State.ioRead at h
  split at h
  · simp only [Except.ok.injEq, Prod.mk.injEq] at h; rw [← h.2]; simp
  · rw [State.periphRead_ok] at h; rw [h.2.2]; rfl

/-- A data-space read that answers changes the surroundings alone (20_memory.md R86). -/
theorem State.memRead_env {s u : State} {a : Nat} {v : Byte} (h : s.memRead a = .ok (v, u)) :
    u = s.setEnv u.env := by
  unfold State.memRead at h
  split at h
  · simp only [Res.bind_ok, pure, Except.pure, Except.ok.injEq, Prod.mk.injEq] at h
    obtain ⟨_, _, _, rfl⟩ := h; simp
  · exact State.ioRead_env h
  · simp only [Res.bind_ok, pure, Except.pure, Except.ok.injEq, Prod.mk.injEq] at h
    obtain ⟨_, _, _, rfl⟩ := h; simp
  · simp only [Res.bind_ok, pure, Except.pure, Except.ok.injEq, Prod.mk.injEq] at h
    obtain ⟨_, _, _, rfl⟩ := h; simp
  · rw [State.periphRead_ok] at h; rw [h.2.2]; rfl
  · simp at h

/-- What no data-space access, push, pop or I/O access touches: configuration, Program Counter, program memory, mode,
latch. -/
def ControlKept (s t : State) : Prop :=
  t.cfg = s.cfg ∧ t.pc = s.pc ∧ t.pmem = s.pmem ∧ t.mode = s.mode ∧ t.irqInhibit = s.irqInhibit

theorem ControlKept.refl (s : State) : ControlKept s s := ⟨rfl, rfl, rfl, rfl, rfl⟩

theorem ControlKept.trans {s t u : State} (h : ControlKept s t) (k : ControlKept t u) : ControlKept s u :=
  ⟨k.1.trans h.1, k.2.1.trans h.2.1, k.2.2.1.trans h.2.2.1, k.2.2.2.1.trans h.2.2.2.1, k.2.2.2.2.trans h.2.2.2.2⟩

theorem State.cpuIoWrite_control (s : State) (r : CpuIo) (v : Byte) : ControlKept s (s.cpuIoWrite r v) := by
  cases r <;> simp only [State.cpuIoWrite, State.setSpLow, State.setSpHigh] <;>
    first | exact ⟨rfl, rfl, rfl, rfl, rfl⟩ | (split <;> exact ⟨rfl, rfl, rfl, rfl, rfl⟩)

theorem State.cpuIoWrite_dmem (s : State) (r : CpuIo) (v : Byte) : (s.cpuIoWrite r v).dmem = s.dmem := by
  cases r <;> simp only [State.cpuIoWrite, State.setSpLow, State.setSpHigh] <;> first | rfl | (split <;> rfl)

theorem State.cpuIoWrite_regs (s : State) (r : CpuIo) (v : Byte) : (s.cpuIoWrite r v).regs = s.regs := by
  cases r <;> simp only [State.cpuIoWrite, State.setSpLow, State.setSpHigh] <;> first | rfl | (split <;> rfl)

theorem State.ioWrite_control {s t : State} {a : Nat} {v : Byte} (h : s.ioWrite a v = .ok t) : ControlKept s t := by
  unfold State.ioWrite at h
  split at h
  · cases h; exact State.cpuIoWrite_control _ _ _
  · unfold State.periphWrite at h; split at h
    · simp at h
    · cases h; exact ⟨rfl, rfl, rfl, rfl, rfl⟩

theorem State.ioWrite_dmem {s t : State} {a : Nat} {v : Byte} (h : s.ioWrite a v = .ok t) : t.dmem = s.dmem := by
  unfold State.ioWrite at h
  split at h
  · cases h; exact State.cpuIoWrite_dmem _ _ _
  · unfold State.periphWrite at h; split at h
    · simp at h
    · cases h; rfl

/-- A data-space write that goes through leaves the control part alone (20_memory.md R87). -/
theorem State.memWrite_control {s t : State} {a : Nat} {v : Byte} (h : s.memWrite a v = .ok t) : ControlKept s t := by
  unfold State.memWrite at h
  split at h
  · rw [State.writeReg_ok] at h; rw [← h.2]; exact ⟨rfl, rfl, rfl, rfl, rfl⟩
  · exact State.ioWrite_control h
  · cases h; exact ⟨rfl, rfl, rfl, rfl, rfl⟩
  · simp at h
  · unfold State.periphWrite at h; split at h
    · simp at h
    · cases h; exact ⟨rfl, rfl, rfl, rfl, rfl⟩
  · simp at h

/-- A data-space write that goes through writes SRAM only where `DS_MAP` has SRAM (20_memory.md R87). -/
theorem State.memWrite_dmem {s t : State} {a : Nat} {v : Byte} (h : s.memWrite a v = .ok t) :
    (dsMap s.cfg a = .sram ∧ t.dmem = Memory.writeByte .data s.dmem a v) ∨ (dsMap s.cfg a ≠ .sram ∧ t.dmem = s.dmem) := by
  unfold State.memWrite at h
  split at h
  · rename_i hd; rw [State.writeReg_ok] at h; rw [← h.2]; exact .inr ⟨by simp [hd], rfl⟩
  · rename_i hd; exact .inr ⟨by simp [hd], State.ioWrite_dmem h⟩
  · rename_i hd; cases h; exact .inl ⟨hd, rfl⟩
  · simp at h
  · rename_i hd; unfold State.periphWrite at h; split at h
    · simp at h
    · cases h; exact .inr ⟨by simp [hd], rfl⟩
  · simp at h

/-- A push that goes through: the write at SP, then SP - 1 (10_state.md R51). -/
theorem State.push_ok {s t : State} {v : Byte} :
    s.push v = .ok t ↔ ∃ u, s.memWrite s.sp.toNat v = .ok u ∧ t = u.setSp ((u.sp.toNat : Int) - 1) := by
  simp only [State.push, Res.bind_ok, pure, Except.pure, Except.ok.injEq]
  constructor <;> rintro ⟨u, h, e⟩ <;> exact ⟨u, h, e.symm⟩

/-- A pop that answers: SP + 1, then the read at SP (10_state.md R51). -/
theorem State.pop_ok {s t : State} {v : Byte} :
    s.pop = .ok (v, t) ↔
      (s.setSp ((s.sp.toNat : Int) + 1)).memRead (s.setSp ((s.sp.toNat : Int) + 1)).sp.toNat = .ok (v, t) := Iff.rfl

theorem State.push_control {s t : State} {v : Byte} (h : s.push v = .ok t) : ControlKept s t := by
  obtain ⟨u, hu, rfl⟩ := State.push_ok.1 h
  exact (State.memWrite_control hu).trans ⟨rfl, rfl, rfl, rfl, rfl⟩

theorem State.pop_control {s t : State} {v : Byte} (h : s.pop = .ok (v, t)) : ControlKept s t := by
  have := State.memRead_env (State.pop_ok.1 h)
  rw [this]; exact ⟨rfl, rfl, rfl, rfl, rfl⟩

/-- What pushing a return address is: two or three pushes (42_change_of_flow.md R224). -/
theorem State.pushReturn_ok {s t : State} {a : Nat} :
    s.pushReturn a = .ok t ↔ ∃ u w, s.push (returnByte s.cfg a 0) = .ok u ∧ u.push (returnByte u.cfg a 1) = .ok w ∧
      (if threeByteReturn w.cfg then w.push (returnByte w.cfg a 2) else .ok w) = .ok t := by
  simp only [State.pushReturn, Res.bind_ok, pure, Except.pure]
  constructor
  · rintro ⟨u, h1, w, h2, h3⟩; exact ⟨u, w, h1, h2, h3⟩
  · rintro ⟨u, w, h1, h2, h3⟩; exact ⟨u, h1, w, h2, h3⟩

theorem State.pushReturn_control {s t : State} {a : Nat} (h : s.pushReturn a = .ok t) : ControlKept s t := by
  obtain ⟨u, w, h1, h2, h3⟩ := State.pushReturn_ok.1 h
  refine (State.push_control h1).trans ((State.push_control h2).trans ?_)
  split at h3
  · exact State.push_control h3
  · cases h3; exact ControlKept.refl _

/-- What popping a return address is: two or three pops (42_change_of_flow.md R229). -/
theorem State.popReturn_ok {s t : State} {a : Nat} :
    s.popReturn = .ok (a, t) ↔ ∃ b2 u b1 w b0, s.popTop = .ok (b2, u) ∧ u.pop = .ok (b1, w) ∧ w.pop = .ok (b0, t) ∧
      a = b2.toNat * 65536 + b1.toNat * 256 + b0.toNat := by
  simp only [State.popReturn, Res.bind_ok, pure, Except.pure, Except.ok.injEq, Prod.mk.injEq, Prod.exists]
  constructor
  · rintro ⟨b2, u, h1, b1, w, h2, b0, t', h3, h4, rfl⟩; exact ⟨b2, u, b1, w, b0, h1, h2, h3, h4.symm⟩
  · rintro ⟨b2, u, b1, w, b0, h1, h2, h3, h4⟩; exact ⟨b2, u, h1, b1, w, h2, b0, t, h3, h4.symm, rfl⟩

theorem State.popReturn_control {s t : State} {a : Nat} (h : s.popReturn = .ok (a, t)) : ControlKept s t := by
  obtain ⟨b2, u, b1, w, b0, h1, h2, h3, -⟩ := State.popReturn_ok.1 h
  refine ControlKept.trans ?_ ((State.pop_control h2).trans (State.pop_control h3))
  unfold State.popTop at h1; split at h1
  · exact State.pop_control h1
  · cases h1; exact ControlKept.refl _

/-- A skip as the rule writes it (42_change_of_flow.md R232): the next word is read only where the condition holds. -/
theorem State.skip_eq (s : State) (cond : Bool) :
    s.skip cond = (if cond then
        (do let w ← s.progWord ((s.pc.toNat + 1) % 2 ^ s.cfg.pcBits)
            pure (s.advance (1 + instructionLength s.cfg.core w)))
      else .ok (s.advance 1)) := by
  unfold State.skip State.progWord
  cases cond
  · simp
  · by_cases h : (s.pc.toNat + 1) % 2 ^ s.cfg.pcBits ≤ s.cfg.flashEnd
    · simp [h, Nat.not_lt.2 h, bind, Except.bind, pure, Except.pure]
    · simp [h, Nat.lt_of_not_le h, raise, bind, Except.bind]

end Sys2Proof.Machine
end

