-- ==== Sys2Proof/Laws/Kept.lean ====
section
/-! SUPPORT. What every shared operation keeps, said once and for all of them: the lemmas an invariant of the step is put
together from. -/

namespace Sys2Proof.Machine

/-- What every shared operation of an instruction keeps: the configuration, program memory, what the interrupt controller will
answer, the mode, the latch, the registers AVRrc lacks, the widths of SP and PC, and the form of SRAM. -/
structure Kept (s t : State) : Prop where
  cfg : t.cfg = s.cfg
  pmem : t.pmem = s.pmem
  req : t.env.requests = s.env.requests
  asks : t.env.asks = s.env.asks
  low : s.cfg.core = .avrRc → ∀ n:Reg, n.val<16 → t.reg n = s.reg n
  sp : s.cfg.spBits ≤ 16 → s.sp.toNat < 2^s.cfg.spBits → t.sp.toNat < 2^s.cfg.spBits
  pc : s.cfg.pcBits ≤ 22 → s.pc.toNat < 2^s.cfg.pcBits → t.pc.toNat < 2^s.cfg.pcBits
  dm : Memory.wf .data s.dmem = true → Memory.wf .data t.dmem = true
  sr : (∀ c ∈ s.dmem, dsMap s.cfg c.1 = .sram) → (∀ c ∈ t.dmem, dsMap s.cfg c.1 = .sram)
  mode : t.mode = s.mode
  irq : t.irqInhibit = s.irqInhibit

theorem Kept.refl (s : State) : Kept s s := ⟨rfl, rfl, rfl, rfl, fun _ _ _ => rfl, fun _ h => h, fun _ h => h, id, id, rfl, rfl⟩

theorem Kept.trans {s t u : State} (h : Kept s t) (k : Kept t u) : Kept s u :=
  ⟨k.cfg.trans h.cfg, k.pmem.trans h.pmem, k.req.trans h.req, k.asks.trans h.asks,
   fun hc n hn => (k.low (h.cfg ▸ hc) n hn).trans (h.low hc n hn),
   fun a b => by have := k.sp; rw [h.cfg] at this; exact this a (h.sp a b),
   fun a b => by have := k.pc; rw [h.cfg] at this; exact this a (h.pc a b),
   fun a => k.dm (h.dm a), fun a => by have := k.sr; rw [h.cfg] at this; exact this (h.sr a), k.mode.trans h.mode, k.irq.trans h.irq⟩

theorem Kept.setSreg (s : State) (f) : Kept s (s.setSreg f) := ⟨rfl, rfl, rfl, rfl, fun _ _ _ => rfl, fun _ h => h, fun _ h => h, id, id, rfl, rfl⟩

theorem Kept.setRampx (s : State) (f) : Kept s (s.setRampx f) := ⟨rfl, rfl, rfl, rfl, fun _ _ _ => rfl, fun _ h => h, fun _ h => h, id, id, rfl, rfl⟩

theorem Kept.setRampy (s : State) (f) : Kept s (s.setRampy f) := ⟨rfl, rfl, rfl, rfl, fun _ _ _ => rfl, fun _ h => h, fun _ h => h, id, id, rfl, rfl⟩

theorem Kept.setRampz (s : State) (f) : Kept s (s.setRampz f) := ⟨rfl, rfl, rfl, rfl, fun _ _ _ => rfl, fun _ h => h, fun _ h => h, id, id, rfl, rfl⟩

theorem Kept.setRampd (s : State) (f) : Kept s (s.setRampd f) := ⟨rfl, rfl, rfl, rfl, fun _ _ _ => rfl, fun _ h => h, fun _ h => h, id, id, rfl, rfl⟩

theorem Kept.setEind (s : State) (f) : Kept s (s.setEind f) := ⟨rfl, rfl, rfl, rfl, fun _ _ _ => rfl, fun _ h => h, fun _ h => h, id, id, rfl, rfl⟩

theorem Kept.setEnv (s : State) (e : Env) (h : e.requests = s.env.requests) (k : e.asks = s.env.asks) : Kept s (s.setEnv e) :=
  ⟨rfl, rfl, h, k, fun _ _ _ => rfl, fun _ h => h, fun _ h => h, id, id, rfl, rfl⟩

theorem Kept.record (s : State) (e) : Kept s (s.record e) := Kept.setEnv _ _ rfl rfl

theorem Kept.setSp (s : State) (v) : Kept s (s.setSp v) := by
  refine ⟨rfl, rfl, rfl, rfl, fun _ _ _ => rfl, ?_, fun _ h => h, id, id, rfl, rfl⟩
  intro a b
  simp only [State.setSp, BitVec.toNat_ofNat]
  have : (v % ((2 ^ s.cfg.spBits : Nat) : Int)).toNat < 2 ^ s.cfg.spBits := by
    have hp : (0:Int) < ((2 ^ s.cfg.spBits : Nat) : Int) := by exact_mod_cast Nat.two_pow_pos _
    have := Int.emod_lt_of_pos v hp
    have := Int.emod_nonneg v (ne_of_gt hp)
    omega
  exact lt_of_le_of_lt (Nat.mod_le _ _) this

theorem Kept.setPc (s : State) (v) : Kept s (s.setPc v) := by
  refine ⟨rfl, rfl, rfl, rfl, fun _ _ _ => rfl, fun _ h => h, ?_, id, id, rfl, rfl⟩
  intro a b
  simp only [State.setPc, BitVec.toNat_ofNat]
  have : (v % ((2 ^ s.cfg.pcBits : Nat) : Int)).toNat < 2 ^ s.cfg.pcBits := by
    have hp : (0:Int) < ((2 ^ s.cfg.pcBits : Nat) : Int) := by exact_mod_cast Nat.two_pow_pos _
    have := Int.emod_lt_of_pos v hp
    have := Int.emod_nonneg v (ne_of_gt hp)
    omega
  exact lt_of_le_of_lt (Nat.mod_le _ _) this

theorem Kept.advance (s : State) (n) : Kept s (s.advance n) := Kept.setPc _ _

theorem Kept.setReg (s : State) (i v) (h : s.hasReg i = true) : Kept s (s.setReg i v) := by
  refine ⟨rfl, rfl, rfl, rfl, ?_, fun _ h => h, fun _ h => h, id, id, rfl, rfl⟩
  intro hc n hn
  rw [State.setReg_reg]
  split
  · rename_i e; subst e; simp [State.hasReg, hc] at h; omega
  · rfl

theorem Kept.writeReg {s t : State} {i v} (h : s.writeReg i v = .ok t) : Kept s t := by
  rw [State.writeReg_ok] at h; obtain ⟨a, rfl⟩ := h; exact Kept.setReg _ _ _ a

theorem Kept.writePair {s t : State} {i v} (h : s.writePair i v = .ok t) : Kept s t := by
  rw [State.writePair_ok] at h; obtain ⟨a, b, rfl⟩ := h
  exact (Kept.setReg _ _ _ a).trans (Kept.setReg _ _ _ b)

theorem Kept.setSramByte (s : State) (a v) (h : dsMap s.cfg a = .sram) : Kept s (s.setSramByte a v) := by
  refine ⟨rfl, rfl, rfl, rfl, fun _ _ _ => rfl, fun _ h => h, fun _ h => h, ?_, ?_, rfl, rfl⟩
  · intro h; exact Memory.writeByte_wf _ _ _ _ h
  · intro hh c hc
    rcases Memory.mem_writeByte (st := .data) (m := s.dmem) (a := a) (v := v) hc with e | e
    · rw [e]; exact h
    · exact hh c e

theorem Kept.cpuIoWrite (s : State) (r v) : Kept s (s.cpuIoWrite r v) := by
  cases r
  · exact Kept.setSreg ..
  · exact Kept.setSp ..
  · simp only [State.cpuIoWrite, State.setSpHigh]; split
    · exact Kept.refl _
    · exact Kept.setSp ..
  · exact Kept.setRampx ..
  · exact Kept.setRampy ..
  · exact Kept.setRampz ..
  · exact Kept.setRampd ..
  · exact Kept.setEind ..

theorem Kept.periphWrite {s t : State} {sp a v} (h : s.periphWrite sp a v = .ok t) : Kept s t := by
  unfold State.periphWrite at h; split at h
  · simp at h
  · cases h; exact Kept.record ..

theorem Kept.periphBitWrite {s t : State} {sp a b v} (h : s.periphBitWrite sp a b v = .ok t) : Kept s t := by
  unfold State.periphBitWrite at h; split at h
  · simp at h
  · cases h; exact Kept.record ..

theorem Env.nextByte_requests (e : Env) : e.nextByte.2.requests = e.requests := by
  unfold Env.nextByte; split <;> rfl

theorem Env.nextByte_asks (e : Env) : e.nextByte.2.asks = e.asks := by
  unfold Env.nextByte; split <;> rfl

theorem Kept.periphRead {s t : State} {sp a v} (h : s.periphRead sp a = .ok (v, t)) : Kept s t := by
  rw [State.periphRead_ok] at h; obtain ⟨-, -, rfl⟩ := h
  exact (Kept.setEnv _ _ (Env.nextByte_requests _) (Env.nextByte_asks _)).trans (Kept.record ..)

theorem Kept.ioWrite {s t : State} {a v} (h : s.ioWrite a v = .ok t) : Kept s t := by
  unfold State.ioWrite at h; split at h
  · cases h; exact Kept.cpuIoWrite ..
  · exact Kept.periphWrite h

theorem Kept.ioBitWrite {s t : State} {a b v} (h : s.ioBitWrite a b v = .ok t) : Kept s t := by
  unfold State.ioBitWrite at h; split at h
  · cases h; exact Kept.cpuIoWrite ..
  · exact Kept.periphBitWrite h

theorem Kept.ioRead {s t : State} {a v} (h : s.ioRead a = .ok (v, t)) : Kept s t := by
  unfold State.ioRead at h; split at h
  · cases h; exact Kept.refl _
  · exact Kept.periphRead h

theorem Kept.ioBitRead {s t : State} {a b v} (h : s.ioBitRead a b = .ok (v, t)) : Kept s t := by
  simp only [State.ioBitRead, Res.bind_ok, pure, Except.pure, Except.ok.injEq, Prod.mk.injEq, Prod.exists] at h
  obtain ⟨x, u, h, -, rfl⟩ := h; exact Kept.ioRead h

theorem Kept.memRead {s t : State} {a v} (h : s.memRead a = .ok (v, t)) : Kept s t := by
  unfold State.memRead at h; split at h
  · simp only [Res.bind_ok, pure, Except.pure, Except.ok.injEq, Prod.mk.injEq] at h; obtain ⟨_, _, _, rfl⟩ := h; exact Kept.refl _
  · exact Kept.ioRead h
  · simp only [Res.bind_ok, pure, Except.pure, Except.ok.injEq, Prod.mk.injEq] at h; obtain ⟨_, _, _, rfl⟩ := h; exact Kept.refl _
  · simp only [Res.bind_ok, pure, Except.pure, Except.ok.injEq, Prod.mk.injEq] at h; obtain ⟨_, _, _, rfl⟩ := h; exact Kept.refl _
  · exact Kept.periphRead h
  · simp at h

theorem Kept.memWrite {s t : State} {a v} (h : s.memWrite a v = .ok t) : Kept s t := by
  unfold State.memWrite at h; split at h
  · exact Kept.writeReg h
  · exact Kept.ioWrite h
  · cases h; exact Kept.setSramByte _ _ _ (by assumption)
  · simp at h
  · exact Kept.periphWrite h
  · simp at h

theorem Kept.push {s t : State} {v} (h : s.push v = .ok t) : Kept s t := by
  obtain ⟨u, hu, rfl⟩ := State.push_ok.1 h; exact (Kept.memWrite hu).trans (Kept.setSp ..)

theorem Kept.pop {s t : State} {v} (h : s.pop = .ok (v, t)) : Kept s t := (Kept.setSp ..).trans (Kept.memRead (State.pop_ok.1 h))

theorem Kept.pushReturn {s t : State} {v} (h : s.pushReturn v = .ok t) : Kept s t := by
  obtain ⟨u, w, h1, h2, h3⟩ := State.pushReturn_ok.1 h
  refine (Kept.push h1).trans ((Kept.push h2).trans ?_)
  split at h3
  · exact Kept.push h3
  · cases h3; exact Kept.refl _

theorem Kept.popReturn {s t : State} {v} (h : s.popReturn = .ok (v, t)) : Kept s t := by
  obtain ⟨b2, u, b1, w, b0, h1, h2, h3, -⟩ := State.popReturn_ok.1 h
  refine Kept.trans ?_ ((Kept.pop h2).trans (Kept.pop h3))
  unfold State.popTop at h1; split at h1
  · exact Kept.pop h1
  · cases h1; exact Kept.refl _

theorem Kept.hardwareIFlag (s : State) (x) : Kept s (s.hardwareIFlag x) := by
  unfold State.hardwareIFlag; split
  · exact Kept.setSreg ..
  · exact Kept.refl _

theorem State.hasReg_pointer (s : State) (p : Ptr) : s.hasReg p.lo = true ∧ s.hasReg p.hi = true := by
  cases p <;> simp [State.hasReg, Ptr.lo, Ptr.hi]

theorem Kept.setRamp (s : State) (p v) : Kept s (s.setRamp p v) := by cases p <;> first | exact Kept.setRampx .. | exact Kept.setRampy .. | exact Kept.setRampz ..

theorem Kept.ptrSet (s : State) (p v) : Kept s (s.ptrSet p v) := by
  unfold State.ptrSet
  have h1 := Kept.setReg s p.lo (BitVec.ofNat 8 v) (State.hasReg_pointer s p).1
  simp only
  split
  · exact h1
  · split
    · exact h1.trans (Kept.setReg _ _ _ (State.hasReg_pointer _ p).2)
    · exact h1.trans ((Kept.setReg _ _ _ (State.hasReg_pointer _ p).2).trans (Kept.setRamp ..))

theorem Kept.setZWord (s : State) (v) : Kept s (s.setZWord v) := (Kept.setReg s 30 _ (by simp [State.hasReg])).trans (Kept.setReg _ 31 _ (by simp [State.hasReg]))

theorem Kept.setZExt (s : State) (v) : Kept s (s.setZExt v) := by
  unfold State.setZExt; split
  · exact (Kept.setZWord ..).trans (Kept.setRampz ..)
  · exact Kept.setZWord ..

theorem Kept.writeBlock {s : State} {b v} : ∀ n t, s.writeBlock b v n = .ok t → Kept s t := by
  intro n; induction n with
  | zero => intro t h; cases h; exact Kept.refl _
  | succ n ih =>
    intro t h
    simp only [State.writeBlock, Res.bind_ok] at h
    obtain ⟨u, h1, h2⟩ := h
    exact (ih _ h1).trans (Kept.writeReg h2)

theorem Kept.skip {s t : State} {c} (h : s.skip c = .ok t) : Kept s t := by
  unfold State.skip at h; simp only at h; split at h
  · cases h; exact Kept.advance ..
  · split at h
    · simp at h
    · cases h; exact Kept.advance ..

theorem Kept.loadReg {s t : State} {d a} (h : s.loadReg d a = .ok t) : Kept s t := by
  simp only [State.loadReg, Res.bind_ok, Prod.exists] at h
  obtain ⟨v, u, h1, h2⟩ := h; exact (Kept.memRead h1).trans (Kept.writeReg h2)

theorem Kept.storeReg {s t : State} {d a} (h : s.storeReg d a = .ok t) : Kept s t := by
  simp only [State.storeReg, Res.bind_ok] at h
  obtain ⟨v, h1, h2⟩ := h; exact Kept.memWrite h2

theorem Kept.loadProg {s t : State} {d a} (h : s.loadProg d a = .ok t) : Kept s t := by
  simp only [State.loadProg, Res.bind_ok] at h
  obtain ⟨v, h1, h2⟩ := h; exact Kept.writeReg h2

/-- What the interrupt controller answers next depends on the configuration and on what it was asked before, on nothing an
instruction changes. -/
theorem Kept.nextRequest {s t : State} (h : Kept s t) : t.nextRequest.1 = s.nextRequest.1 := by
  unfold State.nextRequest
  rw [h.req, h.asks, h.cfg]
  cases s.env.requests <;> rfl

/-- A vector is a word address of program memory (60_exceptions.md R423). -/
theorem vectorOf_le (cfg : Config) (n : Nat) : (vectorOf cfg n).toNat ≤ cfg.flashEnd :=
  calc (vectorOf cfg n).toNat ≤ n % (cfg.flashEnd + 1) := by
        simpa [vectorOf] using Nat.mod_le _ _
    _ ≤ cfg.flashEnd := Nat.le_of_lt_succ (Nat.mod_lt _ (Nat.succ_pos _))

/-- A word address of program memory is the vector it gives (60_exceptions.md R423). -/
theorem vectorOf_of_le {cfg : Config} (v : PcWord) (h : v.toNat ≤ cfg.flashEnd) : vectorOf cfg v.toNat = v := by
  simp [vectorOf, Nat.mod_eq_of_lt (Nat.lt_succ_of_le h)]

/-- Whatever the interrupt controller requests is a word address of program memory (60_exceptions.md R423). -/
theorem State.nextRequest_le {s : State} {v : PcWord} (h : s.nextRequest.1 = some v) : v.toNat ≤ s.cfg.flashEnd := by
  unfold State.nextRequest at h
  split at h <;>
    · simp only [Option.map_eq_some_iff] at h
      obtain ⟨n, -, rfl⟩ := h
      exact vectorOf_le _ _

theorem Res.pure_ok {x y : State} : (pure x : Res State) = .ok y ↔ x = y := by simp [pure, Except.pure]

end Sys2Proof.Machine
end

