-- ==== Sys2Proof/Laws/Operands.lean ====
section
/-! SUPPORT. The operand forms of the register instructions, each as one equation: what they answer where their registers
exist, with nothing left to unfold. -/

namespace Sys2Proof.Machine

/-- Setting the status does not change which registers exist. -/
theorem State.writeReg_setSreg {s : State} {d : Reg} (f : Sreg) (v : Byte) (h : s.hasReg d = true) :
    (s.setSreg f).writeReg d v = .ok ((s.setSreg f).setReg d v) :=
  State.writeReg_of_hasReg v h

theorem State.twoReg_eq {s : State} {d r : Reg} (f : Byte → Byte → Byte × Sreg) (hd : s.hasReg d = true)
    (hr : s.hasReg r = true) :
    s.twoReg d r f =
      .ok (((s.setSreg (f (s.reg d) (s.reg r)).2).setReg d (f (s.reg d) (s.reg r)).1).advance 1) := by
  simp only [State.twoReg, State.readReg_of_hasReg hd, State.readReg_of_hasReg hr, Res.pure_bind,
    State.writeReg_setSreg _ _ hd]
  rfl

theorem State.oneReg_eq {s : State} {d : Reg} (f : Byte → Byte × Sreg) (hd : s.hasReg d = true) :
    s.oneReg d f = .ok (((s.setSreg (f (s.reg d)).2).setReg d (f (s.reg d)).1).advance 1) := by
  simp only [State.oneReg, State.readReg_of_hasReg hd, Res.pure_bind, State.writeReg_setSreg _ _ hd]
  rfl

theorem State.testTwo_eq {s : State} {d r : Reg} (f : Byte → Byte → Sreg) (hd : s.hasReg d = true)
    (hr : s.hasReg r = true) : s.testTwo d r f = .ok ((s.setSreg (f (s.reg d) (s.reg r))).advance 1) := by
  simp only [State.testTwo, State.readReg_of_hasReg hd, State.readReg_of_hasReg hr, Res.pure_bind]
  rfl

theorem State.testOne_eq {s : State} {d : Reg} (f : Byte → Sreg) (hd : s.hasReg d = true) :
    s.testOne d f = .ok ((s.setSreg (f (s.reg d))).advance 1) := by
  simp only [State.testOne, State.readReg_of_hasReg hd, Res.pure_bind]
  rfl

theorem State.readPair_of_hasReg {s : State} {d : Reg} (h0 : s.hasReg d = true) (h1 : s.hasReg (d + 1) = true) :
    s.readPair d = .ok (s.reg (d + 1) ++ s.reg d) :=
  State.readPair_ok.2 ⟨h0, h1, rfl⟩

theorem State.writePair_of_hasReg {s : State} {d : Reg} (v : Word) (h0 : s.hasReg d = true)
    (h1 : s.hasReg (d + 1) = true) :
    s.writePair d v = .ok ((s.setReg d (v.extractLsb' 0 8)).setReg (d + 1) (v.extractLsb' 8 8)) :=
  State.writePair_ok.2 ⟨h0, h1, rfl⟩

theorem State.writePair_setSreg {s : State} {d : Reg} (f : Sreg) (v : Word) (h0 : s.hasReg d = true)
    (h1 : s.hasReg (d + 1) = true) :
    (s.setSreg f).writePair d v =
      .ok (((s.setSreg f).setReg d (v.extractLsb' 0 8)).setReg (d + 1) (v.extractLsb' 8 8)) :=
  State.writePair_of_hasReg v h0 h1

theorem State.wordReg_eq {s : State} {d : Reg} (f : Word → Word × Sreg) (h0 : s.hasReg d = true)
    (h1 : s.hasReg (d + 1) = true) :
    s.wordReg d f =
      .ok ((((s.setSreg (f (s.reg (d + 1) ++ s.reg d)).2).setReg d ((f (s.reg (d + 1) ++ s.reg d)).1.extractLsb' 0 8)).setReg
        (d + 1) ((f (s.reg (d + 1) ++ s.reg d)).1.extractLsb' 8 8)).advance 1) := by
  simp only [State.wordReg, State.readPair_of_hasReg h0 h1, Res.pure_bind]
  rw [State.writePair_setSreg _ _ h0 h1]
  rfl

/-- Every version but AVRrc has every register (10_state.md R42). -/
theorem State.hasReg_of_core {s : State} (h : s.cfg.core ≠ .avrRc) (i : Reg) : s.hasReg i = true := by
  simp [State.hasReg, h]

theorem State.multiply_eq {s : State} (h : s.cfg.core ≠ .avrRc) (d r : Reg) (x y z : Bool) :
    s.multiply d r x y z =
      .ok ((((s.setSreg (mulFlags s.sreg (s.reg d) (s.reg r) x y z).2).setReg 0
        ((mulFlags s.sreg (s.reg d) (s.reg r) x y z).1.extractLsb' 0 8)).setReg 1
        ((mulFlags s.sreg (s.reg d) (s.reg r) x y z).1.extractLsb' 8 8)).advance 1) := by
  simp only [State.multiply, State.readReg_of_hasReg (State.hasReg_of_core h _), Res.pure_bind]
  rw [State.writePair_setSreg _ _ (State.hasReg_of_core h _) (State.hasReg_of_core h _)]
  rfl

/-- A load from data space: the read answers, and the destination exists. -/
theorem State.loadReg_ok {s t : State} {d : Reg} {a : Nat} :
    s.loadReg d a = .ok t ↔ ∃ v u, s.memRead a = .ok (v, u) ∧ u.hasReg d = true ∧ u.setReg d v = t := by
  simp only [State.loadReg, Res.bind_ok, Prod.exists, State.writeReg_ok]

/-- A store to data space: the source exists, and the write answers. -/
theorem State.storeReg_ok {s t : State} {r : Reg} {a : Nat} :
    s.storeReg r a = .ok t ↔ s.hasReg r = true ∧ s.memWrite a (s.reg r) = .ok t := by
  simp only [State.storeReg, Res.bind_ok, State.readReg_ok]
  constructor
  · rintro ⟨v, ⟨h, rfl⟩, k⟩; exact ⟨h, k⟩
  · rintro ⟨h, k⟩; exact ⟨_, ⟨h, rfl⟩, k⟩

/-- A load from program memory: the address is inside it, and the destination exists. -/
theorem State.loadProg_ok {s t : State} {d : Reg} {b : Nat} :
    s.loadProg d b = .ok t ↔ b / 2 ≤ s.cfg.flashEnd ∧ s.hasReg d = true ∧ s.setReg d (s.flashByte b) = t := by
  simp only [State.loadProg, State.progByte, Res.bind_ok, State.writeReg_ok]
  constructor
  · rintro ⟨v, h, k, rfl⟩
    split at h
    · simp at h
    · cases h; exact ⟨by omega, k, rfl⟩
  · rintro ⟨h, k, rfl⟩
    exact ⟨s.flashByte b, by rw [if_neg (by omega)], k, rfl⟩

/-- Interrupt entry: the return address is pushed, the rest always answers. -/
theorem State.interruptEntry_ok {s t : State} {v : PcWord} :
    s.interruptEntry v = .ok t ↔
      ∃ u, (s.setMode .running).pushReturn s.pc.toNat = .ok u ∧
        ((u.hardwareIFlag false).setPc v.toNat).record (.acknowledge v) = t := by
  simp only [State.interruptEntry, Res.bind_ok, pure, Except.pure, Except.ok.injEq]

/-- The return from an interrupt: the address is popped, the rest always answers. -/
theorem State.interruptReturn_ok {s t : State} :
    s.interruptReturn = .ok t ↔
      ∃ a u, s.popReturn = .ok (a, u) ∧ (((u.setPc a).hardwareIFlag true).record .returnFromInterrupt) = t := by
  simp only [State.interruptReturn, Res.bind_ok, pure, Except.pure, Except.ok.injEq, Prod.exists]

/-- The DES round of the hardware keeps the law of sixteen rounds, whatever else it does (41_multiply_des.md R206,
decision D23). -/
theorem desRound_law : SixteenRoundLaw Config.desRound := (Config.desUnit ⟨someDesUnit⟩).law

end Sys2Proof.Machine
end

