-- ==== Sys2Proof/Machine/Devices.lean ====
section
/-! DEFINITION. The device tables: for each device the manual lists, its CPU version and the instructions it lacks
(05_cores_and_devices.md R24 to R29). They say nothing else about a device (R30): every other parameter of a
configuration comes from outside the spec. -/

namespace Sys2Proof.Machine

/-- Devices of one CPU version that lack the same instructions. -/
structure DeviceGroup where
  core : Cpu
  missing : List Mnemonic
  devices : List String
  /-- The list is all that they lack, and no lower bound of it. -/
  complete : Bool := true
  deriving DecidableEq, Repr

/-- "ELPM" in a list stands for the three forms (05_cores_and_devices.md R21). -/
def elpmForms : List Mnemonic := [.elpm, .elpmZ, .elpmZInc]

/-- Table 7-2, "megaAVR Devices" (05_cores_and_devices.md R24). -/
def megaAvr : List DeviceGroup :=
  [ { core := .avrEPlus, missing := [],
      devices :=
       ["ATmega2560", "ATmega2561", "ATmega2564RFR2", "ATmega256RFR2"] }
  , { core := .avrEPlus, missing := [.eijmp, .eicall],
      devices :=
       ["AT90CAN128", "ATmega1280", "ATmega1281", "ATmega1284P", "ATmega1284RFR2", "ATmega1284", "ATmega128A",
        "ATmega128RFA1", "ATmega128RFR2", "ATmega128", "AT90USB1286", "AT90USB1287"] }
  , { core := .avrEPlus, missing := elpmForms ++ [.eijmp, .eicall],
      devices :=
       ["AT90CAN32", "AT90CAN64", "ATmega162", "ATmega164A", "ATmega164PA", "ATmega164P", "ATmega165A",
        "ATmega165PA", "ATmega165P", "ATmega168A", "ATmega168PA", "ATmega168PB", "ATmega168P", "ATmega168",
        "ATmega169A", "ATmega169PA", "ATmega169P", "ATmega16A", "ATmega16HVA", "ATmega16HVB", "ATmega16HVBrevB",
        "ATmega16M1", "ATmega16U2", "ATmega16U4", "ATmega16", "ATmega324A", "ATmega324PA", "ATmega324PB",
        "ATmega324P", "ATmega3250A"] ++
       ["ATmega3250PA", "ATmega3250P", "ATmega3250", "ATmega325A", "ATmega325PA", "ATmega325P", "ATmega325",
        "ATmega328PB", "ATmega328P", "ATmega328", "ATmega3290A", "ATmega3290PA", "ATmega3290P", "ATmega3290",
        "ATmega329A", "ATmega329PA", "ATmega329P", "ATmega329", "ATmega32A", "ATmega32C1", "ATmega32HVB",
        "ATmega32HVBrevB", "ATmega32M1", "ATmega32U2", "ATmega32U4", "ATmega32", "ATmega406", "ATmega640",
        "ATmega644A", "ATmega644PA"] ++
       ["ATmega644P", "ATmega644RFR2", "ATmega644", "ATmega6450A", "ATmega6450P", "ATmega6450", "ATmega645A",
        "ATmega645P", "ATmega645", "ATmega6490A", "ATmega6490P", "ATmega6490", "ATmega649A", "ATmega649P",
        "ATmega649", "ATmega64A", "ATmega64C1", "ATmega64HVE2", "ATmega64M1", "ATmega64RFR2", "ATmega64",
        "AT90PWM216", "AT90PWM316", "AT90USB162", "AT90USB646", "AT90USB647"] }
  , { core := .avrEPlus, missing := elpmForms ++ [.call, .jmp, .eijmp, .eicall],
      devices :=
       ["ATmega48A", "ATmega48PA", "ATmega48PB", "ATmega48P", "ATmega48", "ATmega88A", "ATmega88PA", "ATmega88PB",
        "ATmega88P", "ATmega88", "ATmega8HVA", "ATmega8U2", "AT90PWM161", "AT90PWM1", "AT90PWM2B", "AT90PWM3B",
        "AT90PWM81", "AT90USB82"] }
  , { core := .avrEPlus, missing := elpmForms ++ [.break_, .call, .jmp, .eijmp, .eicall],
      devices :=
       ["ATmega8515", "ATmega8535", "ATmega8A", "ATmega8"] }
  , { core := .avrXt, missing := elpmForms ++ [.spm, .spmZInc, .eijmp, .eicall],
      devices :=
       ["ATmega1608", "ATmega1609", "ATmega3208", "ATmega3209", "ATmega4808", "ATmega4809"] }
  , { core := .avrXt, missing := elpmForms ++ [.call, .jmp, .spm, .spmZInc, .eijmp, .eicall],
      devices :=
       ["ATmega808", "ATmega809"] } ]

/-- Table 7-3, "tinyAVR Devices", but for three devices (05_cores_and_devices.md R25). -/
def tinyAvr : List DeviceGroup :=
  [ { core := .avrRc, missing := [],
      devices :=
       ["ATtiny102", "ATtiny104", "ATtiny40"] }
  , { core := .avrRc, missing := [.break_],
      devices :=
       ["ATtiny10", "ATtiny20", "ATtiny4", "ATtiny5", "ATtiny9"] }
  , { core := .avr, missing := [.break_],
      devices :=
       ["ATtiny26"] }
  , { core := .avrE, missing := [],
      devices :=
       ["ATtiny1634", "ATtiny167"] }
  , { core := .avrE, missing := elpmForms ++ [.call, .jmp],
      devices :=
       ["ATtiny13A", "ATtiny13", "ATtiny2313A", "ATtiny2313", "ATtiny24A", "ATtiny24", "ATtiny25", "ATtiny261A",
        "ATtiny261", "ATtiny4313", "ATtiny43U", "ATtiny441", "ATtiny44A", "ATtiny44", "ATtiny45", "ATtiny461A",
        "ATtiny461", "ATtiny48", "ATtiny828", "ATtiny841", "ATtiny84A", "ATtiny84", "ATtiny85", "ATtiny861A",
        "ATtiny861", "ATtiny87", "ATtiny88"] }
  , { core := .avrXt, missing := elpmForms ++ [.eijmp, .eicall, .spm, .spmZInc],
      devices :=
       ["ATtiny1604", "ATtiny1606", "ATtiny1607", "ATtiny1614", "ATtiny1616", "ATtiny1617", "ATtiny1624",
        "ATtiny1626", "ATtiny1627", "ATtiny3216", "ATtiny3217", "ATtiny3224", "ATtiny3226", "ATtiny3227"] }
  , { core := .avrXt, missing := elpmForms ++ [.call, .jmp, .spm, .spmZInc, .eijmp, .eicall],
      devices :=
       ["ATtiny202", "ATtiny204", "ATtiny212", "ATtiny214", "ATtiny402", "ATtiny404", "ATtiny406", "ATtiny412",
        "ATtiny414", "ATtiny416", "ATtiny417", "ATtiny424", "ATtiny426", "ATtiny427", "ATtiny804", "ATtiny806",
        "ATtiny807", "ATtiny814", "ATtiny816", "ATtiny817", "ATtiny824", "ATtiny826", "ATtiny827"] } ]

/-- Table 7-4, "AVR Dx Devices" (05_cores_and_devices.md R27). -/
def avrDx : List DeviceGroup :=
  [ { core := .avrXt, missing := [.eijmp, .eicall],
      devices :=
       ["AVR128DA28", "AVR128DA32", "AVR128DA48", "AVR128DA64", "AVR128DB28", "AVR128DB32", "AVR128DB48",
        "AVR128DB64", "AVR128DD28", "AVR128DD32", "AVR128DD48", "AVR128DD64"] }
  , { core := .avrXt, missing := elpmForms ++ [.eijmp, .eicall],
      devices :=
       ["AVR32DA28", "AVR32DA32", "AVR32DA48", "AVR64DA28", "AVR64DA32", "AVR64DA48", "AVR64DA64", "AVR32DB28",
        "AVR32DB32", "AVR32DB48", "AVR64DB28", "AVR64DB32", "AVR64DB48", "AVR64DB64", "AVR32DD28", "AVR32DD32",
        "AVR32DD48", "AVR64DD28", "AVR64DD32", "AVR64DD48", "AVR64DD64"] } ]

/-- Table 7-5, "XMEGA Devices" (05_cores_and_devices.md R28). -/
def xmega : List DeviceGroup :=
  [ { core := .avrXm, missing := [],
      devices :=
       ["ATxmega128A1U", "ATxmega128A3U", "ATxmega128A4U", "ATxmega128B1", "ATxmega128B3", "ATxmega128C3",
        "ATxmega192A3U", "ATxmega192C3", "ATxmega256A3BU", "ATxmega256A3U", "ATxmega256C3", "ATxmega384C3"] }
  , { core := .avrXm, missing := [.lac, .lat, .las, .xch],
      devices :=
       ["ATxmega128A1", "ATxmega128A3", "ATxmega128D3", "ATxmega128D4", "ATxmega192A3", "ATxmega192D3",
        "ATxmega256A3B", "ATxmega256A3", "ATxmega256D3", "ATxmega384D3"] }
  , { core := .avrXm, missing := [.eijmp, .eicall],
      devices :=
       ["ATxmega64A1U", "ATxmega64A3U", "ATxmega64A4U", "ATxmega64B1", "ATxmega64B3", "ATxmega64C3"] }
  , { core := .avrXm, missing := [.lac, .lat, .las, .xch, .eijmp, .eicall],
      devices :=
       ["ATxmega64A1", "ATxmega64A3", "ATxmega64D3", "ATxmega64D4"] }
  , { core := .avrXm, missing := elpmForms ++ [.eijmp, .eicall],
      devices :=
       ["ATxmega16A4U", "ATxmega16C4", "ATxmega16E5", "ATxmega32A4U", "ATxmega32C4", "ATxmega32E5", "ATxmega8E5"] }
  , { core := .avrXm, missing := elpmForms ++ [.lac, .lat, .las, .xch, .eijmp, .eicall],
      devices :=
       ["ATxmega16A4", "ATxmega16D4", "ATxmega32C3", "ATxmega32D3", "ATxmega32A4", "ATxmega32D4"] } ]

/-- Table 7-6, "Automotive Devices" (05_cores_and_devices.md R29). -/
def automotive : List DeviceGroup :=
  [ { core := .avrE, missing := [],
      devices :=
       ["ATA5505", "ATA6617C", "ATA664251"] }
  , { core := .avrE, missing := elpmForms ++ [.call, .jmp],
      devices :=
       ["ATA5272", "ATA6616C"] }
  , { core := .avrEPlus, missing := elpmForms ++ [.eijmp, .eicall],
      devices :=
       ["ATA5700M322", "ATA5702M322", "ATA5781", "ATA5782", "ATA5783", "ATA5787", "ATA5790N", "ATA5790", "ATA5791",
        "ATA5831", "ATA5832", "ATA5833", "ATA5835", "ATA6613C", "ATA6614Q", "ATA8210", "ATA8215", "ATA8510",
        "ATA8515"] }
  , { core := .avrEPlus, missing := elpmForms ++ [.call, .jmp, .eijmp, .eicall],
      devices :=
       ["ATA5795", "ATA6285", "ATA6286", "ATA6612C"] }
  , { core := .avrXt, missing := elpmForms ++ [.call, .jmp, .spm, .spmZInc, .eijmp, .eicall],
      devices :=
       ["ATtiny416auto"] } ]

/-- The three devices of version AVR whose list is cut off in the source: what the cell certainly names, a lower bound of
what they lack, the rest being left to whoever configures the model (05_cores_and_devices.md R26). -/
def smallestTiny : List DeviceGroup :=
  [{ core := .avr
     missing :=
       [.break_, .lpm, .lpmZInc, .adiw, .sbiw, .ijmp, .icall, .ldX, .ldXInc, .ldXDec, .ldY, .ldYInc, .ldYDec,
        .ldZDec, .ldZInc]
     devices := ["ATtiny11", "ATtiny12", "ATtiny15"]
     complete := false }]

/-- Every device of the manual. -/
def deviceGroups : List DeviceGroup := megaAvr ++ tinyAvr ++ smallestTiny ++ avrDx ++ xmega ++ automotive

/-- The group of a device, nothing where the manual does not list it. -/
def deviceGroup (name : String) : Option DeviceGroup := deviceGroups.find? fun g => g.devices.contains name

/-- What a device of the group lacks: the listed instructions and, where the list is only a lower bound, those the configurer
names beside them, so that nothing the list leaves open is taken to exist (05_cores_and_devices.md R23, R26). -/
def DeviceGroup.lacks (g : DeviceGroup) (named : List Mnemonic) : List Mnemonic :=
  if g.complete then g.missing else g.missing ++ named

/-- A configuration with the CPU version and the missing instructions of a listed device (05_cores_and_devices.md R23). -/
def forDevice (cfg : Config) (name : String) : Option Config :=
  (deviceGroup name).map fun g => { cfg with core := g.core, missing := g.lacks cfg.missing }

end Sys2Proof.Machine
end

