-- ==== Sys2Proof/Tests/Slice0.lean ====
section
/-! SUPPORT. The tests: what the checks of WellFormed refuse, one decoding of every constructor, steps of the spec's worked
examples, and a witness of the hypotheses of every statement that has some. -/

namespace Sys2Proof.Tests

open Sys2Proof Sys2Proof.Machine

/-! ### Helpers -/

/-- What holds of the next state of an outcome, nothing where there is none. -/
def after {α : Type} (f : State → α) (o : StepOutcome) : Option α :=
  match o with
  | .next t => some (f t)
  | _ => none

/-- Why an outcome stops, nothing where it goes on. -/
def stopOf (o : StepOutcome) : Option Stop :=
  match o with
  | .next _ => none
  | .fault f => some (.fault f)
  | .refused r => some (.refused r)

/-- The default device with registers and a status. -/
def holding (l : List (Reg × Byte)) (sreg : Byte) : State :=
  l.foldl (fun s p => s.setReg p.1 p.2) (State.reset.setSreg (Sreg.ofByte sreg))

/-- A device of version AVRe: a 16-bit Program Counter, the data map of layout (a) of 20_memory.md R85. -/
def classic : Config :=
  { defaultDevice with
    core := .avrE, pcBits := 16, flashEnd := 0x3FFF, ramEnd := 0x045F, dsBits := 16, resetSp := 0x025F
    hasRampX := false, hasRampY := false, hasRampZ := false, hasRampD := false, hasEind := false
    dsMap := layoutClassic 0x5F 0x045F }

/-- A device of version AVRrc: sixteen registers, an 8-bit Stack Pointer, program memory in data space. -/
def reduced : Config :=
  { classic with
    core := .avrRc, nregs := 16, pcBits := 9, flashEnd := 0x1FF, ramEnd := 0xBF, spBits := 8, resetSp := 0xBF, ioSph := none
    dsMap := layoutRc 0xBF 0x1FF }

/-- A device of version AVRxt: program memory in data space from 0x8000 on (layout (c) of 20_memory.md R85). -/
def mapped : Config :=
  { classic with
    core := .avrXt, missing := [.eijmp, .eicall], flashEnd := 0x7FFF, ramEnd := 0x3FFF
    dsMap := layoutXt 0x103F 0x1080 0x14FF 0x2800 0x3FFF 0x8000 0x7FFF }

/-- The AVRe device at an address. -/
def classicAt (pc : PcWord) : State := { State.resetOf classic with pc := pc }

/-- A word of program memory. -/
def withWord (s : State) (a : Nat) (w : Word) : State :=
  { s with pmem := storeBytes s.pmem (2 * a) [w.extractLsb' 0 8, w.extractLsb' 8 8] }

/-- The default device with a platform that answers one read. -/
def answering (v : Byte) : State := State.reset.setEnv { State.reset.env with inputs := [v] }

/-- After the CALL of R228, at its target. -/
def returning : State :=
  { ((classicAt 0x0100).setSramByte 0x025E 0x00).setSramByte 0x025F 0x12 with sp := 0x025D }

/-- Z, and the table of R340 in program memory. -/
def tableAt (z : Word) : State :=
  withWord (((State.resetOf classic).setReg 30 (z.extractLsb' 0 8)).setReg 31 (z.extractLsb' 8 8)) 0x0100 0x5876

/-- RAMPZ, R31 and R30, and the tables of R343 and R345 in program memory. -/
def extendedTable (e h l : Byte) : State :=
  withWord (withWord ((holding [(31, h), (30, l)] 0).setRampz e) 0x10080 0x3738) 0xFFFF 0xEE11

/-- A device with RAMPZ among the lower 32 I/O locations. -/
def lowRampz (v : Byte) : State :=
  (State.resetOf { classic with hasRampZ := true, ioRampZ := some 0x1B }).setRampz v

/-- `sei`, `sleep`, `nop` in program memory, and a request for vector 4. -/
def pending : State :=
  (withWord (withWord (withWord (classicAt 0) 0 0x9478) 1 0x9588) 2 0x0000).setEnv
    { State.reset.env with requests := [some 4] }

/-- The state with an interrupt controller that answers `None` at the next boundary. -/
def noRequest (s : State) : State := s.setEnv { s.env with requests := [none] }

/-- The state after the first step of `pending`. -/
def afterSei : State := { pending with pc := 1, sreg := Sreg.ofByte 0x80, irqInhibit := true }

/-- The state after its second step. -/
def asleep : State := { pending with pc := 2, sreg := Sreg.ofByte 0x80, mode := .sleeping }

/-! ### What WellFormed refuses -/

/-- R16 to R31 only (30_encoding.md R123). -/
theorem test_wf_upper :
    ∀ i ∈ [Instr.subi 15 0#8, .sbci 15 0#8, .andi 15 0#8, .ori 15 0#8, .sbr 15 0#8, .cbr 15 0#8, .cpi 15 0#8, .ldi 15 0#8,
           .ser 15, .muls 15 16, .muls 16 15, .ldsRc 15 0#7, .stsRc 0#7 15], i.wf = false := by
  decide

/-- R16 to R23 only (30_encoding.md R124). -/
theorem test_wf_mul_upper :
    ∀ i ∈ [Instr.mulsu 15 16, .mulsu 16 24, .fmul 24 16, .fmul 16 15, .fmuls 15 16, .fmuls 16 24, .fmulsu 24 16,
           .fmulsu 16 15], i.wf = false := by
  decide

/-- Even registers only, and for ADIW and SBIW from R24 on (30_encoding.md R125). -/
theorem test_wf_pairs :
    ∀ i ∈ [Instr.adiw 25 0#6, .adiw 22 0#6, .sbiw 31 0#6, .sbiw 0 0#6, .movw 1 0, .movw 0 31], i.wf = false := by
  decide

/-- The one-word LDS and STS are words of AVRrc alone, displacements of 32 and more of every other version
(30_encoding.md R131). -/
theorem test_encodable :
    Instr.encodableOn .avrXm (.ldsRc 16 0#7) = false ∧ Instr.encodableOn .avr (.stsRc 0#7 16) = false ∧
    Instr.encodableOn .avrRc (.lddY 0 32#6) = false ∧ Instr.encodableOn .avrRc (.stdZ 63#6 0) = false ∧
    Instr.encodableOn .avrRc (.lddZ 0 31#6) = true := by
  decide

/-! ### Decoding: a word of every constructor, written out from its encoding in 30_encoding.md -/

theorem test_decode_arithmetic :
    decodeWords .avrXm 0b0000110101011010#16 0#16 = .ok (.add 21 10) ∧
    decodeWords .avrXm 0b0001110101011010#16 0#16 = .ok (.adc 21 10) ∧
    decodeWords .avrXm 0b1001011010101011#16 0#16 = .ok (.adiw 28 0x2B#6) ∧
    decodeWords .avrXm 0b0001100101011010#16 0#16 = .ok (.sub 21 10) ∧
    decodeWords .avrXm 0b0101110010100101#16 0#16 = .ok (.subi 26 0xC5#8) ∧
    decodeWords .avrXm 0b0000100101011010#16 0#16 = .ok (.sbc 21 10) ∧
    decodeWords .avrXm 0b0100110010100101#16 0#16 = .ok (.sbci 26 0xC5#8) ∧
    decodeWords .avrXm 0b1001011110101011#16 0#16 = .ok (.sbiw 28 0x2B#6) := by
  decide

theorem test_decode_logic :
    decodeWords .avrXm 0b0010000101011010#16 0#16 = .ok (.and 21 10) ∧
    decodeWords .avrXm 0b0111110010100101#16 0#16 = .ok (.andi 26 0xC5#8) ∧
    decodeWords .avrXm 0b0010100101011010#16 0#16 = .ok (.or 21 10) ∧
    decodeWords .avrXm 0b0110110010100101#16 0#16 = .ok (.ori 26 0xC5#8) ∧
    decodeWords .avrXm 0b0010010101011010#16 0#16 = .ok (.eor 21 10) ∧
    decodeWords .avrXm 0b1001010101010000#16 0#16 = .ok (.com 21) ∧
    decodeWords .avrXm 0b1001010101010001#16 0#16 = .ok (.neg 21) ∧
    decodeWords .avrXm 0b0110110010100101#16 0#16 = .ok (.ori 26 0xC5#8) ∧
    decodeWords .avrXm 0b0111001110101010#16 0#16 = .ok (.andi 26 0x3A#8) ∧
    decodeWords .avrXm 0b1001010101010011#16 0#16 = .ok (.inc 21) ∧
    decodeWords .avrXm 0b1001010101011010#16 0#16 = .ok (.dec 21) ∧
    decodeWords .avrXm 0b0010001101010101#16 0#16 = .ok (.and 21 21) ∧
    decodeWords .avrXm 0b0010011101010101#16 0#16 = .ok (.eor 21 21) ∧
    decodeWords .avrXm 0b1110111110101111#16 0#16 = .ok (.ldi 26 0xFF#8) := by
  decide

theorem test_decode_multiply_des :
    decodeWords .avrXm 0b1001110101011010#16 0#16 = .ok (.mul 21 10) ∧
    decodeWords .avrXm 0b0000001010100101#16 0#16 = .ok (.muls 26 21) ∧
    decodeWords .avrXm 0b0000001101010010#16 0#16 = .ok (.mulsu 21 18) ∧
    decodeWords .avrXm 0b0000001101011010#16 0#16 = .ok (.fmul 21 18) ∧
    decodeWords .avrXm 0b0000001111010010#16 0#16 = .ok (.fmuls 21 18) ∧
    decodeWords .avrXm 0b0000001111011010#16 0#16 = .ok (.fmulsu 21 18) ∧
    decodeWords .avrXm 0b1001010010101011#16 0#16 = .ok (.des 0xA#4) := by
  decide

theorem test_decode_change_of_flow :
    decodeWords .avrXm 0b1100100100101101#16 0#16 = .ok (.rjmp 0x92D#12) ∧
    decodeWords .avrXm 0b1001010000001001#16 0#16 = .ok .ijmp ∧
    decodeWords .avrXm 0b1001010000011001#16 0#16 = .ok .eijmp ∧
    decodeWords .avrXm 0b1001010101101101#16 0b0001101001011100#16 = .ok (.jmp 0x2D1A5C#22) ∧
    decodeWords .avrXm 0b1101100100101101#16 0#16 = .ok (.rcall 0x92D#12) ∧
    decodeWords .avrXm 0b1001010100001001#16 0#16 = .ok .icall ∧
    decodeWords .avrXm 0b1001010100011001#16 0#16 = .ok .eicall ∧
    decodeWords .avrXm 0b1001010101101111#16 0b0001101001011100#16 = .ok (.call 0x2D1A5C#22) ∧
    decodeWords .avrXm 0b1001010100001000#16 0#16 = .ok .ret ∧
    decodeWords .avrXm 0b1001010100011000#16 0#16 = .ok .reti ∧
    decodeWords .avrXm 0b0001000101011010#16 0#16 = .ok (.cpse 21 10) ∧
    decodeWords .avrXm 0b0001010101011010#16 0#16 = .ok (.cp 21 10) ∧
    decodeWords .avrXm 0b0000010101011010#16 0#16 = .ok (.cpc 21 10) ∧
    decodeWords .avrXm 0b0011110010100101#16 0#16 = .ok (.cpi 26 0xC5#8) ∧
    decodeWords .avrXm 0b1111110011010110#16 0#16 = .ok (.sbrc 13 6) ∧
    decodeWords .avrXm 0b1111111011010110#16 0#16 = .ok (.sbrs 13 6) ∧
    decodeWords .avrXm 0b1001100110110110#16 0#16 = .ok (.sbic 0x16#5 6) ∧
    decodeWords .avrXm 0b1001101110110110#16 0#16 = .ok (.sbis 0x16#5 6) ∧
    decodeWords .avrXm 0b1111001010011011#16 0#16 = .ok (.brbs 3 0x53#7) ∧
    decodeWords .avrXm 0b1111011010011011#16 0#16 = .ok (.brbc 3 0x53#7) := by
  decide

theorem test_decode_branches :
    decodeWords .avrXm 0b1111001010011001#16 0#16 = .ok (.brbs 1 0x53#7) ∧
    decodeWords .avrXm 0b1111011010011001#16 0#16 = .ok (.brbc 1 0x53#7) ∧
    decodeWords .avrXm 0b1111001010011000#16 0#16 = .ok (.brbs 0 0x53#7) ∧
    decodeWords .avrXm 0b1111011010011000#16 0#16 = .ok (.brbc 0 0x53#7) ∧
    decodeWords .avrXm 0b1111011010011000#16 0#16 = .ok (.brbc 0 0x53#7) ∧
    decodeWords .avrXm 0b1111001010011000#16 0#16 = .ok (.brbs 0 0x53#7) ∧
    decodeWords .avrXm 0b1111001010011010#16 0#16 = .ok (.brbs 2 0x53#7) ∧
    decodeWords .avrXm 0b1111011010011010#16 0#16 = .ok (.brbc 2 0x53#7) ∧
    decodeWords .avrXm 0b1111011010011100#16 0#16 = .ok (.brbc 4 0x53#7) ∧
    decodeWords .avrXm 0b1111001010011100#16 0#16 = .ok (.brbs 4 0x53#7) ∧
    decodeWords .avrXm 0b1111001010011101#16 0#16 = .ok (.brbs 5 0x53#7) ∧
    decodeWords .avrXm 0b1111011010011101#16 0#16 = .ok (.brbc 5 0x53#7) ∧
    decodeWords .avrXm 0b1111001010011110#16 0#16 = .ok (.brbs 6 0x53#7) ∧
    decodeWords .avrXm 0b1111011010011110#16 0#16 = .ok (.brbc 6 0x53#7) ∧
    decodeWords .avrXm 0b1111001010011011#16 0#16 = .ok (.brbs 3 0x53#7) ∧
    decodeWords .avrXm 0b1111011010011011#16 0#16 = .ok (.brbc 3 0x53#7) ∧
    decodeWords .avrXm 0b1111001010011111#16 0#16 = .ok (.brbs 7 0x53#7) ∧
    decodeWords .avrXm 0b1111011010011111#16 0#16 = .ok (.brbc 7 0x53#7) := by
  decide

theorem test_decode_transfer :
    decodeWords .avrXm 0b0010110101011010#16 0#16 = .ok (.mov 21 10) ∧
    decodeWords .avrXm 0b0000000110010110#16 0#16 = .ok (.movw 18 12) ∧
    decodeWords .avrXm 0b1110110010100101#16 0#16 = .ok (.ldi 26 0xC5#8) ∧
    decodeWords .avrXm 0b1001000101010000#16 0b1011001110010110#16 = .ok (.lds 21 0xB396#16) := by
  decide

theorem test_decode_loads :
    decodeWords .avrXm 0b1001000101011100#16 0#16 = .ok (.ldX 21) ∧
    decodeWords .avrXm 0b1001000101011101#16 0#16 = .ok (.ldXInc 21) ∧
    decodeWords .avrXm 0b1001000101011110#16 0#16 = .ok (.ldXDec 21) ∧
    decodeWords .avrXm 0b1000000101011000#16 0#16 = .ok (.ldY 21) ∧
    decodeWords .avrXm 0b1001000101011001#16 0#16 = .ok (.ldYInc 21) ∧
    decodeWords .avrXm 0b1001000101011010#16 0#16 = .ok (.ldYDec 21) ∧
    decodeWords .avrXm 0b1010010101011011#16 0#16 = .ok (.lddY 21 0x2B#6) ∧
    decodeWords .avrXm 0b1000000101010000#16 0#16 = .ok (.ldZ 21) ∧
    decodeWords .avrXm 0b1001000101010001#16 0#16 = .ok (.ldZInc 21) ∧
    decodeWords .avrXm 0b1001000101010010#16 0#16 = .ok (.ldZDec 21) ∧
    decodeWords .avrXm 0b1010010101010011#16 0#16 = .ok (.lddZ 21 0x2B#6) := by
  decide

theorem test_decode_stores :
    decodeWords .avrXm 0b1001001011010000#16 0b1011001110010110#16 = .ok (.sts 0xB396#16 13) ∧
    decodeWords .avrRc 0b1010110110100011#16 0#16 = .ok (.stsRc 0x53#7 26) ∧
    decodeWords .avrXm 0b1001001011011100#16 0#16 = .ok (.stX 13) ∧
    decodeWords .avrXm 0b1001001011011101#16 0#16 = .ok (.stXInc 13) ∧
    decodeWords .avrXm 0b1001001011011110#16 0#16 = .ok (.stXDec 13) ∧
    decodeWords .avrXm 0b1000001011011000#16 0#16 = .ok (.stY 13) ∧
    decodeWords .avrXm 0b1001001011011001#16 0#16 = .ok (.stYInc 13) ∧
    decodeWords .avrXm 0b1001001011011010#16 0#16 = .ok (.stYDec 13) ∧
    decodeWords .avrXm 0b1010011011011011#16 0#16 = .ok (.stdY 0x2B#6 13) ∧
    decodeWords .avrXm 0b1000001011010000#16 0#16 = .ok (.stZ 13) ∧
    decodeWords .avrXm 0b1001001011010001#16 0#16 = .ok (.stZInc 13) ∧
    decodeWords .avrXm 0b1001001011010010#16 0#16 = .ok (.stZDec 13) ∧
    decodeWords .avrXm 0b1010011011010011#16 0#16 = .ok (.stdZ 0x2B#6 13) := by
  decide

theorem test_decode_io_stack_rmw :
    decodeWords .avrXm 0b1011010101011011#16 0#16 = .ok (.in_ 21 0x2B#6) ∧
    decodeWords .avrXm 0b1011110011011011#16 0#16 = .ok (.out 0x2B#6 13) ∧
    decodeWords .avrXm 0b1001001011011111#16 0#16 = .ok (.push 13) ∧
    decodeWords .avrXm 0b1001000101011111#16 0#16 = .ok (.pop 21) ∧
    decodeWords .avrXm 0b1001001101010100#16 0#16 = .ok (.xch 21) ∧
    decodeWords .avrXm 0b1001001101010101#16 0#16 = .ok (.las 21) ∧
    decodeWords .avrXm 0b1001001101010110#16 0#16 = .ok (.lac 21) ∧
    decodeWords .avrXm 0b1001001101010111#16 0#16 = .ok (.lat 21) := by
  decide

theorem test_decode_program_memory :
    decodeWords .avrXm 0b1001010111001000#16 0#16 = .ok .lpm ∧
    decodeWords .avrXm 0b1001000101010100#16 0#16 = .ok (.lpmZ 21) ∧
    decodeWords .avrXm 0b1001000101010101#16 0#16 = .ok (.lpmZInc 21) ∧
    decodeWords .avrXm 0b1001010111011000#16 0#16 = .ok .elpm ∧
    decodeWords .avrXm 0b1001000101010110#16 0#16 = .ok (.elpmZ 21) ∧
    decodeWords .avrXm 0b1001000101010111#16 0#16 = .ok (.elpmZInc 21) ∧
    decodeWords .avrXm 0b1001010111101000#16 0#16 = .ok .spm ∧
    decodeWords .avrXm 0b1001010111111000#16 0#16 = .ok .spmZInc := by
  decide

theorem test_decode_bits :
    decodeWords .avrXm 0b0000111101010101#16 0#16 = .ok (.add 21 21) ∧
    decodeWords .avrXm 0b1001010101010110#16 0#16 = .ok (.lsr 21) ∧
    decodeWords .avrXm 0b0001111101010101#16 0#16 = .ok (.adc 21 21) ∧
    decodeWords .avrXm 0b1001010101010111#16 0#16 = .ok (.ror 21) ∧
    decodeWords .avrXm 0b1001010101010101#16 0#16 = .ok (.asr 21) ∧
    decodeWords .avrXm 0b1001010101010010#16 0#16 = .ok (.swap 21) ∧
    decodeWords .avrXm 0b1001101010110110#16 0#16 = .ok (.sbi 0x16#5 6) ∧
    decodeWords .avrXm 0b1001100010110110#16 0#16 = .ok (.cbi 0x16#5 6) ∧
    decodeWords .avrXm 0b1111101101010110#16 0#16 = .ok (.bst 21 6) ∧
    decodeWords .avrXm 0b1111100101010110#16 0#16 = .ok (.bld 21 6) ∧
    decodeWords .avrXm 0b1001010000111000#16 0#16 = .ok (.bset 3) ∧
    decodeWords .avrXm 0b1001010010111000#16 0#16 = .ok (.bclr 3) := by
  decide

theorem test_decode_flags :
    decodeWords .avrXm 0b1001010000001000#16 0#16 = .ok (.bset 0) ∧
    decodeWords .avrXm 0b1001010010001000#16 0#16 = .ok (.bclr 0) ∧
    decodeWords .avrXm 0b1001010000101000#16 0#16 = .ok (.bset 2) ∧
    decodeWords .avrXm 0b1001010010101000#16 0#16 = .ok (.bclr 2) ∧
    decodeWords .avrXm 0b1001010000011000#16 0#16 = .ok (.bset 1) ∧
    decodeWords .avrXm 0b1001010010011000#16 0#16 = .ok (.bclr 1) ∧
    decodeWords .avrXm 0b1001010001111000#16 0#16 = .ok (.bset 7) ∧
    decodeWords .avrXm 0b1001010011111000#16 0#16 = .ok (.bclr 7) ∧
    decodeWords .avrXm 0b1001010001001000#16 0#16 = .ok (.bset 4) ∧
    decodeWords .avrXm 0b1001010011001000#16 0#16 = .ok (.bclr 4) ∧
    decodeWords .avrXm 0b1001010000111000#16 0#16 = .ok (.bset 3) ∧
    decodeWords .avrXm 0b1001010010111000#16 0#16 = .ok (.bclr 3) ∧
    decodeWords .avrXm 0b1001010001101000#16 0#16 = .ok (.bset 6) ∧
    decodeWords .avrXm 0b1001010011101000#16 0#16 = .ok (.bclr 6) ∧
    decodeWords .avrXm 0b1001010001011000#16 0#16 = .ok (.bset 5) ∧
    decodeWords .avrXm 0b1001010011011000#16 0#16 = .ok (.bclr 5) := by
  decide

theorem test_decode_control :
    decodeWords .avrXm 0b1001010110011000#16 0#16 = .ok .break_ ∧
    decodeWords .avrXm 0b0000000000000000#16 0#16 = .ok .nop ∧
    decodeWords .avrXm 0b1001010110001000#16 0#16 = .ok .sleep ∧
    decodeWords .avrXm 0b1001010110101000#16 0#16 = .ok .wdr := by
  decide

/-- Words that are no instruction, one of each line of the table of 30_encoding.md R132. -/
theorem test_decode_illegal :
    decodeWords .avrXm 0x0001#16 0#16 = .error (.illegal 0x0001#16) ∧
    decodeWords .avrXm 0x9003#16 0#16 = .error (.illegal 0x9003#16) ∧
    decodeWords .avrXm 0x9008#16 0#16 = .error (.illegal 0x9008#16) ∧
    decodeWords .avrXm 0x900B#16 0#16 = .error (.illegal 0x900B#16) ∧
    decodeWords .avrXm 0x9203#16 0#16 = .error (.illegal 0x9203#16) ∧
    decodeWords .avrXm 0x9208#16 0#16 = .error (.illegal 0x9208#16) ∧
    decodeWords .avrXm 0x920B#16 0#16 = .error (.illegal 0x920B#16) ∧
    decodeWords .avrXm 0x9404#16 0#16 = .error (.illegal 0x9404#16) ∧
    decodeWords .avrXm 0x9528#16 0#16 = .error (.illegal 0x9528#16) ∧
    decodeWords .avrXm 0x95B8#16 0#16 = .error (.illegal 0x95B8#16) ∧
    decodeWords .avrXm 0x9429#16 0#16 = .error (.illegal 0x9429#16) ∧
    decodeWords .avrXm 0x950B#16 0#16 = .error (.illegal 0x950B#16) ∧
    decodeWords .avrXm 0xF808#16 0#16 = .error (.illegal 0xF808#16) ∧
    decodeWords .avrXm 0xFFFF#16 0#16 = .error (.illegal 0xFFFF#16) := by
  decide

/-! ### Steps: arithmetic and logic, and bits -/

/-- The worked examples of R163. -/
theorem test_add :
  after (fun t => (t.reg 1, t.sreg.toByte)) (exec (.add 1 2) (holding [(1, 0x7F), (2, 0x01)] 0x00)) = some (0x80#8, 0x2C#8) := by
  decide

/-- The worked examples of R164, and of R372: a carry in. -/
theorem test_adc :
  after (fun t => (t.reg 3, t.sreg.toByte)) (exec (.adc 3 1) (holding [(3, 0xFF), (1, 0x00)] 0x01)) = some (0x00#8, 0x23#8) ∧
  after (fun t => (t.reg 0, t.sreg.toByte)) (exec (.adc 0 1) (holding [(0, 0x10), (1, 0x20)] 0x01)) = some (0x31#8, 0x00#8) := by
  decide

/-- The worked examples of R165. -/
theorem test_adiw :
  after (fun t => (t.reg 25, t.reg 24, t.sreg.toByte)) (exec (.adiw 24 1#6) (holding [(25, 0xFF), (24, 0xFF)] 0x20)) = some (0x00#8, 0x00#8, 0x23#8) ∧
  after (fun t => (t.reg 25, t.reg 24, t.sreg.toByte)) (exec (.adiw 24 1#6) (holding [(25, 0x7F), (24, 0xFF)] 0x00)) = some (0x80#8, 0x00#8, 0x0C#8) := by
  decide

/-- The worked examples of R166. -/
theorem test_sub :
  after (fun t => (t.reg 13, t.sreg.toByte)) (exec (.sub 13 12) (holding [(13, 0x00), (12, 0x01)] 0x00)) = some (0xFF#8, 0x35#8) := by
  decide

/-- The worked examples of R167. -/
theorem test_subi :
  after (fun t => (t.reg 22, t.sreg.toByte)) (exec (.subi 22 0x11#8) (holding [(22, 0x11)] 0x01)) = some (0x00#8, 0x02#8) := by
  decide

/-- The worked examples of R168. -/
theorem test_sbc :
  after (fun t => (t.reg 3, t.sreg.toByte)) (exec (.sbc 3 1) (holding [(3, 0x01), (1, 0x00)] 0x03)) = some (0x00#8, 0x02#8) ∧
  after (fun t => (t.reg 3, t.sreg.toByte)) (exec (.sbc 3 1) (holding [(3, 0x01), (1, 0x00)] 0x01)) = some (0x00#8, 0x00#8) := by
  decide

/-- The worked examples of R169. -/
theorem test_sbci :
  after (fun t => (t.reg 17, t.sreg.toByte)) (exec (.sbci 17 0x4F#8) (holding [(17, 0x4F)] 0x02)) = some (0x00#8, 0x02#8) := by
  decide

/-- The worked examples of R170. -/
theorem test_sbiw :
  after (fun t => (t.reg 25, t.reg 24, t.sreg.toByte)) (exec (.sbiw 24 1#6) (holding [(25, 0x00), (24, 0x00)] 0x20)) = some (0xFF#8, 0xFF#8, 0x35#8) ∧
  after (fun t => (t.reg 25, t.reg 24, t.sreg.toByte)) (exec (.sbiw 24 1#6) (holding [(25, 0x80), (24, 0x00)] 0x00)) = some (0x7F#8, 0xFF#8, 0x18#8) := by
  decide

/-- The worked examples of R171. -/
theorem test_and :
  after (fun t => (t.reg 2, t.sreg.toByte)) (exec (.and 2 16) (holding [(2, 0xF3), (16, 0x01)] 0x21)) = some (0x01#8, 0x21#8) := by
  decide

/-- The worked examples of R172. -/
theorem test_andi :
  after (fun t => (t.reg 17, t.sreg.toByte)) (exec (.andi 17 0x0F#8) (holding [(17, 0xA5)] 0x00)) = some (0x05#8, 0x00#8) := by
  decide

/-- The worked examples of R173. -/
theorem test_or :
  after (fun t => (t.reg 15, t.sreg.toByte)) (exec (.or 15 16) (holding [(15, 0x40), (16, 0x80)] 0x00)) = some (0xC0#8, 0x14#8) := by
  decide

/-- The worked examples of R174. -/
theorem test_ori :
  after (fun t => (t.reg 16, t.sreg.toByte)) (exec (.ori 16 0xF0#8) (holding [(16, 0x05)] 0x00)) = some (0xF5#8, 0x14#8) := by
  decide

/-- The worked examples of R175. -/
theorem test_eor :
  after (fun t => (t.reg 0, t.sreg.toByte)) (exec (.eor 0 22) (holding [(0, 0xFF), (22, 0x0F)] 0x00)) = some (0xF0#8, 0x14#8) := by
  decide

/-- The worked examples of R176. -/
theorem test_com :
  after (fun t => (t.reg 4, t.sreg.toByte)) (exec (.com 4) (holding [(4, 0x55)] 0x20)) = some (0xAA#8, 0x35#8) ∧
  after (fun t => (t.reg 4, t.sreg.toByte)) (exec (.com 4) (holding [(4, 0xFF)] 0x00)) = some (0x00#8, 0x03#8) := by
  decide

/-- The worked examples of R177. -/
theorem test_neg :
  after (fun t => (t.reg 11, t.sreg.toByte)) (exec (.neg 11) (holding [(11, 0x80)] 0x20)) = some (0x80#8, 0x0D#8) ∧
  after (fun t => (t.reg 11, t.sreg.toByte)) (exec (.neg 11) (holding [(11, 0x10)] 0x00)) = some (0xF0#8, 0x15#8) := by
  decide

/-- The worked examples of R178. -/
theorem test_sbr :
  after (fun t => (t.reg 16, t.sreg.toByte)) (exec (.sbr 16 3#8) (holding [(16, 0x10)] 0x00)) = some (0x13#8, 0x00#8) := by
  decide

/-- The worked examples of R179. -/
theorem test_cbr :
  after (fun t => (t.reg 16, t.sreg.toByte)) (exec (.cbr 16 0xF0#8) (holding [(16, 0xA5)] 0x00)) = some (0x05#8, 0x00#8) := by
  decide

/-- The worked examples of R180. -/
theorem test_inc :
  after (fun t => (t.reg 22, t.sreg.toByte)) (exec (.inc 22) (holding [(22, 0x7F)] 0x01)) = some (0x80#8, 0x0D#8) ∧
  after (fun t => (t.reg 22, t.sreg.toByte)) (exec (.inc 22) (holding [(22, 0xFF)] 0x00)) = some (0x00#8, 0x02#8) := by
  decide

/-- The worked examples of R181. -/
theorem test_dec :
  after (fun t => (t.reg 17, t.sreg.toByte)) (exec (.dec 17) (holding [(17, 0x80)] 0x00)) = some (0x7F#8, 0x18#8) ∧
  after (fun t => (t.reg 17, t.sreg.toByte)) (exec (.dec 17) (holding [(17, 0x00)] 0x01)) = some (0xFF#8, 0x15#8) := by
  decide

/-- The worked examples of R182. -/
theorem test_tst :
  after (fun t => (t.reg 0, t.sreg.toByte)) (exec (.tst 0) (holding [(0, 0x80)] 0x00)) = some (0x80#8, 0x14#8) := by
  decide

/-- The worked examples of R183. -/
theorem test_clr :
  after (fun t => (t.reg 18, t.sreg.toByte)) (exec (.clr 18) (holding [(18, 0x77)] 0x1D)) = some (0x00#8, 0x03#8) := by
  decide

/-- The worked examples of R184. -/
theorem test_ser :
  after (fun t => (t.reg 17, t.sreg.toByte)) (exec (.ser 17) (holding [(17, 0x00)] 0x01)) = some (0xFF#8, 0x01#8) := by
  decide

/-- The worked examples of R200. -/
theorem test_mul :
  after (fun t => (t.reg 1, t.reg 0, t.sreg.toByte)) (exec (.mul 5 4) (holding [(5, 0xFF), (4, 0xFF)] 0x02)) = some (0xFE#8, 0x01#8, 0x01#8) := by
  decide

/-- The worked examples of R201. -/
theorem test_muls :
  after (fun t => (t.reg 1, t.reg 0, t.sreg.toByte)) (exec (.muls 21 20) (holding [(21, 0x80), (20, 0x7F)] 0x00)) = some (0xC0#8, 0x80#8, 0x01#8) := by
  decide

/-- The worked examples of R202. -/
theorem test_mulsu :
  after (fun t => (t.reg 1, t.reg 0, t.sreg.toByte)) (exec (.mulsu 23 20) (holding [(23, 0xFF), (20, 0xFF)] 0x00)) = some (0xFF#8, 0x01#8, 0x01#8) := by
  decide

/-- The worked examples of R203. -/
theorem test_fmul :
  after (fun t => (t.reg 1, t.reg 0, t.sreg.toByte)) (exec (.fmul 23 22) (holding [(23, 0xC0), (22, 0xC0)] 0x00)) = some (0x20#8, 0x00#8, 0x01#8) := by
  decide

/-- The worked examples of R204. -/
theorem test_fmuls :
  after (fun t => (t.reg 1, t.reg 0, t.sreg.toByte)) (exec (.fmuls 23 22) (holding [(23, 0xC0), (22, 0x40)] 0x00)) = some (0xE0#8, 0x00#8, 0x01#8) := by
  decide

/-- The worked examples of R205. -/
theorem test_fmulsu :
  after (fun t => (t.reg 1, t.reg 0, t.sreg.toByte)) (exec (.fmulsu 23 20) (holding [(23, 0x80), (20, 0xFF)] 0x00)) = some (0x01#8, 0x00#8, 0x01#8) := by
  decide

/-- The worked examples of R234. -/
theorem test_cp :
  after (fun t => (t.reg 4, t.sreg.toByte)) (exec (.cp 4 19) (holding [(4, 0x80), (19, 0x01)] 0x00)) = some (0x80#8, 0x38#8) ∧
  after (fun t => (t.reg 4, t.sreg.toByte)) (exec (.cp 4 19) (holding [(4, 0x7F), (19, 0xFF)] 0x00)) = some (0x7F#8, 0x0D#8) := by
  decide

/-- The worked examples of R235. -/
theorem test_cpc :
  after (fun t => (t.reg 3, t.sreg.toByte)) (exec (.cpc 3 1) (holding [(3, 0x01), (1, 0x00)] 0x01)) = some (0x01#8, 0x00#8) ∧
  after (fun t => (t.reg 3, t.sreg.toByte)) (exec (.cpc 3 1) (holding [(3, 0x80), (1, 0x7F)] 0x03)) = some (0x80#8, 0x3A#8) := by
  decide

/-- The worked examples of R236. -/
theorem test_cpi :
  after (fun t => (t.reg 16, t.sreg.toByte)) (exec (.cpi 16 0x42#8) (holding [(16, 0x10)] 0x00)) = some (0x10#8, 0x35#8) := by
  decide

/-- The worked examples of R280. -/
theorem test_mov :
  after (fun t => (t.reg 16, t.reg 0, t.sreg.toByte)) (exec (.mov 16 0) (holding [(0, 0x5A)] 0x00)) = some (0x5A#8, 0x5A#8, 0x00#8) := by
  decide

/-- The worked examples of R281. -/
theorem test_movw :
  after (fun t => (t.reg 17, t.reg 16, t.sreg.toByte)) (exec (.movw 16 0) (holding [(1, 0x32), (0, 0x11)] 0x00)) = some (0x32#8, 0x11#8, 0x00#8) := by
  decide

/-- The worked examples of R282. -/
theorem test_ldi :
  after (fun t => (t.reg 30, t.sreg.toByte)) (exec (.ldi 30 0xF0#8) (holding [] 0x00)) = some (0xF0#8, 0x00#8) := by
  decide

/-- The worked examples of R360. -/
theorem test_lsl :
  after (fun t => (t.reg 0, t.sreg.toByte)) (exec (.lsl 0) (holding [(0, 0x81)] 0x00)) = some (0x02#8, 0x19#8) ∧
  after (fun t => (t.reg 0, t.sreg.toByte)) (exec (.lsl 0) (holding [(0, 0x08)] 0x01)) = some (0x10#8, 0x20#8) := by
  decide

/-- The worked examples of R361. -/
theorem test_lsr :
  after (fun t => (t.reg 0, t.sreg.toByte)) (exec (.lsr 0) (holding [(0, 0x81)] 0x24)) = some (0x40#8, 0x39#8) := by
  decide

/-- The worked examples of R362. -/
theorem test_rol :
  after (fun t => (t.reg 0, t.sreg.toByte)) (exec (.rol 0) (holding [(0, 0x40)] 0x01)) = some (0x81#8, 0x0C#8) ∧
  after (fun t => (t.reg 0, t.sreg.toByte)) (exec (.rol 0) (holding [(0, 0x80)] 0x00)) = some (0x00#8, 0x1B#8) := by
  decide

/-- The worked examples of R363. -/
theorem test_ror :
  after (fun t => (t.reg 0, t.sreg.toByte)) (exec (.ror 0) (holding [(0, 0x80)] 0x01)) = some (0xC0#8, 0x0C#8) ∧
  after (fun t => (t.reg 0, t.sreg.toByte)) (exec (.ror 0) (holding [(0, 0x01)] 0x01)) = some (0x80#8, 0x15#8) := by
  decide

/-- The worked examples of R364. -/
theorem test_asr :
  after (fun t => (t.reg 0, t.sreg.toByte)) (exec (.asr 0) (holding [(0, 0x81)] 0x00)) = some (0xC0#8, 0x15#8) := by
  decide

/-- The worked examples of R365. -/
theorem test_swap :
  after (fun t => (t.reg 1, t.sreg.toByte)) (exec (.swap 1) (holding [(1, 0x81)] 0x02)) = some (0x18#8, 0x02#8) := by
  decide

/-- The worked examples of R368. -/
theorem test_bst :
  after (fun t => (t.reg 1, t.sreg.toByte)) (exec (.bst 1 2) (holding [(1, 0x04)] 0x00)) = some (0x04#8, 0x40#8) ∧
  after (fun t => (t.reg 1, t.sreg.toByte)) (exec (.bst 1 2) (holding [(1, 0xFB)] 0x40)) = some (0xFB#8, 0x00#8) := by
  decide

/-- The worked examples of R369. -/
theorem test_bld :
  after (fun t => (t.reg 0, t.sreg.toByte)) (exec (.bld 0 4) (holding [(0, 0x00)] 0x40)) = some (0x10#8, 0x40#8) ∧
  after (fun t => (t.reg 0, t.sreg.toByte)) (exec (.bld 0 4) (holding [(0, 0xFF)] 0x00)) = some (0xEF#8, 0x00#8) := by
  decide

/-- The set and clear instructions on the SREG values of R370 to R387. -/
theorem test_set_flags :
    ∀ p ∈ [(Instr.bset 6, 0x00#8, 0x40#8), (.sec, 0x00, 0x01), (.sen, 0x00, 0x04), (.sez, 0x00, 0x02), (.sei, 0x00, 0x80),
           (.ses, 0x00, 0x10), (.sev, 0x00, 0x08), (.set, 0x00, 0x40), (.seh, 0x00, 0x20)],
      after (fun t => t.sreg.toByte) (exec p.1 (holding [] p.2.1)) = some p.2.2 := by
  decide

/-- As for `test_set_flags`. -/
theorem test_clear_flags :
    ∀ p ∈ [(Instr.bclr 0, 0xFF#8, 0xFE#8), (.clc, 0x03, 0x02), (.cln, 0x14, 0x10), (.clz, 0x03, 0x01), (.cli, 0x83, 0x03),
           (.cls, 0x14, 0x04), (.clv, 0x18, 0x10), (.clt, 0x41, 0x01), (.clh, 0x21, 0x01)],
      after (fun t => t.sreg.toByte) (exec p.1 (holding [] p.2.1)) = some p.2.2 := by
  decide

/-- The published DES example of 95_test_vectors.md, Part B, under table B2 (from general knowledge, log 10). -/
theorem test_des_encrypt : desEncrypt 0x0123456789ABCDEF#64 0x133457799BBCDFF1#64 = 0x85E813540F0AB405#64 := by
  decide +kernel

/-- As for `test_des_encrypt`, back again. -/
theorem test_des_decrypt : desDecrypt 0x85E813540F0AB405#64 0x133457799BBCDFF1#64 = 0x0123456789ABCDEF#64 := by
  decide +kernel

/-! ### Steps: change of flow -/

/-- The worked example of R220: forwards by 2, and backwards by 2048 through 0 on a 16-bit Program Counter. -/
theorem test_rjmp :
    after (·.pc) (exec (.rjmp 2#12) (classicAt 0x0100)) = some 0x0103#22 ∧
    after (·.pc) (exec (.rjmp 0x800#12) (classicAt 0x0100)) = some 0xF901#22 := by
  decide

/-- R221, R222 and R223. -/
theorem test_jumps :
    after (·.pc) (exec .ijmp (holding [(31, 0x12), (30, 0x34)] 0)) = some 0x001234#22 ∧
    after (·.pc) (exec .eijmp ((holding [(31, 0x10), (30, 0x00)] 0).setEind 0x05)) = some 0x051000#22 ∧
    after (·.pc) (exec (.jmp 0x312345#22) State.reset) = some 0x312345#22 := by
  decide

/-- The worked example of R225. -/
theorem test_rcall :
    after (fun t => (t.pc, t.sp, t.sramByte 0x025F, t.sramByte 0x025E)) (exec (.rcall 0xFFD#12) (classicAt 0x0234)) =
      some (0x0232#22, 0x025D#16, some 0x35, some 0x02) := by
  decide

/-- The worked example of R227, the stack moved up to the SRAM of the default device. -/
theorem test_eicall :
    after (fun t => (t.pc, t.sp, t.sramByte 0x225F, t.sramByte 0x225E, t.sramByte 0x225D))
      (exec .eicall { (holding [(31, 0x10), (30, 0x00)] 0).setEind 0x05 with pc := 0x01ABCD, sp := 0x225F }) =
      some (0x051000#22, 0x225C#16, some 0xCE, some 0xAB, some 0x01) := by
  decide

/-- The worked examples of R226 and R228. -/
theorem test_icall_call :
    after (fun t => (t.pc, t.sp, t.sramByte 0x225F, t.sramByte 0x225E, t.sramByte 0x225D))
      (exec .icall { holding [(31, 0x12), (30, 0x34)] 0 with pc := 0x020000, sp := 0x225F }) =
      some (0x001234#22, 0x225C#16, some 0x01, some 0x00, some 0x02) ∧
    after (fun t => (t.pc, t.sp, t.sramByte 0x025F, t.sramByte 0x025E)) (exec (.call 0x0100#22) (classicAt 0x0010)) =
      some (0x0100#22, 0x025D#16, some 0x12, some 0x00) := by
  decide

/-- The worked examples of R230 and R231. -/
theorem test_ret_reti :
    after (fun t => (t.pc, t.sp)) (exec .ret returning) = some (0x0012#22, 0x025F#16) ∧
    after (fun t => (t.pc, t.sp, t.sreg.toByte)) (exec .reti returning) = some (0x0012#22, 0x025F#16, 0x80#8) ∧
    after (fun t => t.sreg.toByte) (exec .reti { returning with cfg := { classic with core := .avrXt } }) =
      some 0x00#8 := by
  decide

/-- The worked example of R233: over a word, over two words, not at all. -/
theorem test_cpse :
    after (·.pc) (exec (.cpse 4 0) (((classicAt 0).setReg 4 7).setReg 0 7)) = some 2#22 ∧
    after (·.pc) (exec (.cpse 4 0) (withWord (((classicAt 0).setReg 4 7).setReg 0 7) 1 0x940C)) = some 3#22 ∧
    after (·.pc) (exec (.cpse 4 0) (((classicAt 0).setReg 4 7).setReg 0 8)) = some 1#22 := by
  decide

/-- The worked examples of R237 and R238. -/
theorem test_sbrc_sbrs :
    after (·.pc) (exec (.sbrc 0 7) ((classicAt 0x20).setReg 0 0x7F)) = some 0x22#22 ∧
    after (·.pc) (exec (.sbrc 0 7) ((classicAt 0x20).setReg 0 0x80)) = some 0x21#22 ∧
    after (·.pc) (exec (.sbrs 0 7) ((classicAt 0x20).setReg 0 0x80)) = some 0x22#22 ∧
    after (·.pc) (exec (.sbrs 0 7) ((classicAt 0x20).setReg 0 0x7F)) = some 0x21#22 := by
  decide

/-- The worked examples of R239 and R240: one read of the platform, skip or not. -/
theorem test_sbic_sbis :
    after (fun t => (t.pc, t.env.trace)) (exec (.sbic 0x1C#5 1) (answering 0x02)) =
      some (1#22, [.periphRead .io 0x1C 0x02]) ∧
    after (fun t => (t.pc, t.env.trace)) (exec (.sbic 0x1C#5 1) (answering 0xFD)) =
      some (2#22, [.periphRead .io 0x1C 0xFD]) ∧
    after (·.pc) (exec (.sbis 0x10#5 0) (answering 0x01)) = some 2#22 ∧
    after (·.pc) (exec (.sbis 0x10#5 0) (answering 0xFE)) = some 1#22 := by
  decide

/-- The worked examples of R242 and R243. -/
theorem test_brbs_brbc :
    after (·.pc) (exec (.brbs 6 2#7) ((classicAt 0x10).setSreg (Sreg.ofByte 0x40))) = some 0x13#22 ∧
    after (·.pc) (exec (.brbs 6 2#7) (classicAt 0x10)) = some 0x11#22 ∧
    after (·.pc) (exec (.brbc 1 1#7) (classicAt 0x10)) = some 0x12#22 := by
  decide

/-- R244 to R261: with the flags that take it set, each named branch goes two words back from the next instruction; with
every flag the other way it goes on. The flags are those of the table of R241 to R261. -/
theorem test_named_branches :
    ∀ p ∈ [(Instr.breq 0x7E#7, 0x02#8), (.brcs 0x7E, 0x01), (.brlo 0x7E, 0x01), (.brmi 0x7E, 0x04), (.brlt 0x7E, 0x10),
           (.brhs 0x7E, 0x20), (.brts 0x7E, 0x40), (.brvs 0x7E, 0x08), (.brie 0x7E, 0x80), (.brne 0x7E, 0xFD),
           (.brcc 0x7E, 0xFE), (.brsh 0x7E, 0xFE), (.brpl 0x7E, 0xFB), (.brge 0x7E, 0xEF), (.brhc 0x7E, 0xDF),
           (.brtc 0x7E, 0xBF), (.brvc 0x7E, 0xF7), (.brid 0x7E, 0x7F)],
      after (·.pc) (exec p.1 ((classicAt 0x10).setSreg (Sreg.ofByte p.2))) = some 0x0F#22 ∧
      after (·.pc) (exec p.1 ((classicAt 0x10).setSreg (Sreg.ofByte (~~~p.2)))) = some 0x11#22 := by
  decide

/-- The tables hold the 317 devices of 05_cores_and_devices.md; ATmega8 lacks BREAK, ATmega2560 nothing (R24); ATtiny12 lacks what
the configurer names beside its list (R26). -/
theorem test_device_tables :
    (deviceGroups.map fun g => g.devices.length).sum = 317 ∧
    (forDevice classic "ATmega8").map (fun c => (available c .break_, available c .mul)) = some (false, true) ∧
    (forDevice classic "ATmega2560").map (fun c => available c .elpmZInc) = some true ∧
    (forDevice { classic with missing := [.push, .sts] } "ATtiny12").map (fun c =>
      (available c .push, available c .sts, available c .adiw, available c .pop)) = some (false, false, false, true) ∧
    (forDevice { classic with missing := [.push] } "ATmega8").map (fun c => available c .push) = some true ∧
    forDevice classic "ATmega" = none := by
  decide

/-- The four layouts of R85 are accepted maps, and what stands where they say. -/
theorem test_layouts :
    (∀ c ∈ [classic, { classic with dsMap := layoutClassic 0xFF 0x045F }, defaultDevice, mapped, reduced],
      accepted c = true) ∧
    [0x1B, 0x5F, 0x60, 0x0460].map (dsMap classic) = [.reg 27, .io 0x3F, .sram, .unmapped] ∧
    [0x0FFF, 0x1000, 0x2000, 0x4000].map (dsMap defaultDevice) = [.io 0x0FFF, .other, .sram, .other] ∧
    [0x003F, 0x1080, 0x2800, 0x4000, 0x8001, 0xFFFF].map (dsMap mapped) =
      [.io 0x3F, .other, .sram, .unmapped, .flash 1, .flash 0x7FFF] ∧
    [0x3F, 0x40, 0xC0, 0x3F00, 0x4000, 0x43FF, 0x4400].map (dsMap reduced) =
      [.io 0x3F, .sram, .unmapped, .other, .flash 0, .flash 0x03FF, .unmapped] := by
  decide

/-! ### Steps: data transfer -/

/-- R283 and R298: a read and a write at a 16-bit address, two words on. -/
theorem test_lds_sts :
    after (fun t => (t.reg 2, t.pc)) (exec (.lds 2 0x0300#16) ((classicAt 0).setSramByte 0x0300 0x12)) =
      some (0x12#8, 2#22) ∧
    after (fun t => (t.sramByte 0x0300, t.pc)) (exec (.sts 0x0300#16 2) ((classicAt 0).setReg 2 0x42)) =
      some (some 0x42, 2#22) ∧
    after (fun t => t.sreg.toByte) (exec (.sts 0x005F#16 16) ((classicAt 0).setReg 16 0x80)) = some 0x80#8 := by
  decide

/-- The worked example of R297: RAMPD above the 16 bits. -/
theorem test_lds_sts_ramped :
    after (fun t => (t.reg 4, t.env.trace)) (exec (.lds 4 0x1234#16) ((answering 0x99).setRampd 0x02)) =
      some (0x99#8, [.periphRead .data 0x021234 0x99]) ∧
    after (·.env.trace) (exec (.sts 0x1235#16 5) ((holding [(5, 0x77)] 0).setRampd 0x02)) =
      some [.periphWrite .data 0x021235 0x77] := by
  decide

/-- The worked examples of R284 and R299: the address the seven bits make. -/
theorem test_rc_addresses :
    rcAddr 0x00#7 = 0x80 ∧ rcAddr 0x10#7 = 0x40 ∧ rcAddr 0x50#7 = 0x60 ∧ rcAddr 0x6F#7 = 0xBF ∧ rcAddr 0x7F#7 = 0x7F := by
  decide

/-- R284 and R299 on the reduced core. -/
theorem test_lds_sts_rc :
    after (fun t => (t.reg 16, t.pc)) (exec (.ldsRc 16 0x00#7) ((State.resetOf reduced).setSramByte 0x80 0x10)) =
      some (0x10#8, 1#22) ∧
    after (fun t => (t.sramByte 0x6A, t.pc)) (exec (.stsRc 0x5A#7 16) ((State.resetOf reduced).setReg 16 0x44)) =
      some (some 0x44, 1#22) := by
  decide

/-- The worked examples of R286, R289 and R293, and of R292 and R296. -/
theorem test_loads :
    (∀ p ∈ [(Instr.ldX 1, 26), (.ldY 1, 28), (.ldZ 1, 30)],
      after (fun t => (t.reg 1, t.reg p.2)) (exec p.1 (((classicAt 0).setReg p.2 0x61).setSramByte 0x61 0xA1)) =
        some (0xA1#8, 0x61#8)) ∧
    (∀ p ∈ [(Instr.lddY 4 2, 28), (.lddZ 4 2, 30)],
      after (fun t => (t.reg 4, t.reg p.2)) (exec p.1 (((classicAt 0).setReg p.2 0x62).setSramByte 0x64 0xA4)) =
        some (0xA4#8, 0x62#8)) := by
  decide

/-- The worked examples of R287, R290 and R294, and of R288, R291 and R295. -/
theorem test_load_updates :
    (∀ p ∈ [(Instr.ldXInc 0, 26), (.ldYInc 0, 28), (.ldZInc 0, 30)],
      after (fun t => (t.reg 0, t.reg p.2)) (exec p.1 (((classicAt 0).setReg p.2 0x60).setSramByte 0x60 0xA0)) =
        some (0xA0#8, 0x61#8)) ∧
    (∀ p ∈ [(Instr.ldXDec 3, 26), (.ldYDec 3, 28), (.ldZDec 3, 30)],
      after (fun t => (t.reg 3, t.reg p.2)) (exec p.1 (((classicAt 0).setReg p.2 0x63).setSramByte 0x62 0xA2)) =
        some (0xA2#8, 0x62#8)) := by
  decide

/-- The carry of a pointer into its RAMP register (R287, R288). -/
theorem test_pointer_carry :
    after (fun t => (t.reg 27, t.reg 26, t.rampx))
      (exec (.ldXInc 0) { holding [(27, 0xFF), (26, 0xFF)] 0 with env := (answering 0x11).env }) =
      some (0x00#8, 0x00#8, 0x01#8) ∧
    after (fun t => (t.reg 27, t.reg 26, t.rampx))
      (exec (.ldXDec 0) { (holding [] 0).setRampx 0x01 with env := (answering 0x11).env }) =
      some (0xFF#8, 0xFF#8, 0x00#8) := by
  decide

/-- The worked examples of R300, R303 and R307, and of R306 and R310. -/
theorem test_stores :
    (∀ p ∈ [(Instr.stX 1, 26), (.stY 1, 28), (.stZ 1, 30)],
      after (·.sramByte 0x61) (exec p.1 (((classicAt 0).setReg p.2 0x61).setReg 1 0xB1)) = some (some 0xB1)) ∧
    (∀ p ∈ [(Instr.stdY 2 4, 28), (.stdZ 2 4, 30)],
      after (·.sramByte 0x64) (exec p.1 (((classicAt 0).setReg p.2 0x62).setReg 4 0xB4)) = some (some 0xB4)) ∧
    after (·.reg 5) (exec (.stX 0) (((classicAt 0).setReg 26 0x05).setReg 0 0x77)) = some 0x77 := by
  decide

/-- The worked examples of R301, R304 and R308, and of R302, R305 and R309. -/
theorem test_store_updates :
    (∀ p ∈ [(Instr.stXInc 0, 26), (.stYInc 0, 28), (.stZInc 0, 30)],
      after (fun t => (t.sramByte 0x60, t.reg p.2)) (exec p.1 (((classicAt 0).setReg p.2 0x60).setReg 0 0xB0)) =
        some (some 0xB0, 0x61#8)) ∧
    (∀ p ∈ [(Instr.stXDec 3, 26), (.stYDec 3, 28), (.stZDec 3, 30)],
      after (fun t => (t.sramByte 0x62, t.reg p.2)) (exec p.1 (((classicAt 0).setReg p.2 0x63).setReg 3 0xB3)) =
        some (some 0xB3, 0x62#8)) := by
  decide

/-- The worked examples of R311 and R312. -/
theorem test_in_out :
    after (·.reg 25) (exec (.in_ 25 0x16#6) (answering 0x04)) = some 0x04#8 ∧
    after (·.reg 0) (exec (.in_ 0 0x3F#6) (holding [] 0x83)) = some 0x83#8 ∧
    after (·.env.trace) (exec (.out 0x18#6 16) (holding [] 0)) = some [.periphWrite .io 0x18 0x00] ∧
    after (fun t => t.sreg.toByte) (exec (.out 0x3F#6 1) (holding [(1, 0x55)] 0)) = some 0x55#8 := by
  decide

/-- The worked examples of R313 and R314. -/
theorem test_push_pop :
    after (fun t => (t.sramByte 0x025D, t.sp)) (exec (.push 14) { (classicAt 0).setReg 14 0x0E with sp := 0x025D }) =
      some (some 0x0E, 0x025C#16) ∧
    after (fun t => (t.reg 13, t.sp)) (exec (.pop 13) { (classicAt 0).setSramByte 0x025C 0x0D with sp := 0x025B }) =
      some (0x0D#8, 0x025C#16) := by
  decide

/-- The worked examples of R315 to R319. -/
theorem test_read_modify_write :
    (∀ p ∈ [(Instr.xch 16, 0x3C#8), (.las 16, 0x7E#8), (.lac 16, 0x42#8), (.lat 16, 0x66#8)],
      after (fun t => (t.sramByte 0x2000, t.reg 16))
        (exec p.1 ((holding [(31, 0x20), (16, 0x3C)] 0).setSramByte 0x2000 0x5A)) = some (some p.2, 0x5A#8)) ∧
    stopOf (exec (.las 16) (holding [(30, 0x10)] 0)) = some (.fault (.rmwOutsideSram 0x10)) := by
  decide

/-! ### Steps: program memory -/

/-- The worked examples of R340, R341 and R342. -/
theorem test_lpm :
    after (·.reg 0) (exec .lpm (tableAt 0x0201)) = some 0x58#8 ∧
    after (·.reg 16) (exec (.lpmZ 16) (tableAt 0x0200)) = some 0x76#8 ∧
    after (fun t => (t.reg 18, t.reg 31, t.reg 30)) (exec (.lpmZInc 18) (tableAt 0x0201)) =
      some (0x58#8, 0x02#8, 0x02#8) := by
  decide

/-- The worked examples of R343, R344 and R345. -/
theorem test_elpm :
    after (·.reg 0) (exec .elpm (extendedTable 0x02 0x01 0x01)) = some 0x37#8 ∧
    after (·.reg 17) (exec (.elpmZ 17) (extendedTable 0x02 0x01 0x01)) = some 0x37#8 ∧
    after (fun t => (t.reg 16, t.rampz, t.reg 31, t.reg 30)) (exec (.elpmZInc 16) (extendedTable 0x02 0x01 0x00)) =
      some (0x38#8, 0x02#8, 0x01#8, 0x01#8) ∧
    after (fun t => (t.reg 20, t.rampz, t.reg 31, t.reg 30)) (exec (.elpmZInc 20) (extendedTable 0x01 0xFF 0xFF)) =
      some (0xEE#8, 0x02#8, 0x00#8, 0x00#8) := by
  decide

/-! ### Steps: bits of I/O, control, the machine -/

/-- SBI and CBI hand a bit write to the platform, or write one bit of a CPU register (R366, R367). -/
theorem test_sbi_cbi :
    after (·.env.trace) (exec (.sbi 0x1C#5 0) (classicAt 0)) = some [.periphBitWrite .io 0x1C 0 true] ∧
    after (·.env.trace) (exec (.cbi 0x12#5 7) (classicAt 0)) = some [.periphBitWrite .io 0x12 7 false] ∧
    after (·.rampz) (exec (.sbi 0x1B#5 3) (lowRampz 0x41)) = some 0x49#8 ∧
    after (·.rampz) (exec (.cbi 0x1B#5 6) (lowRampz 0x41)) = some 0x01#8 := by
  decide

/-- The worked examples of R410, R411 and R413, and R412. -/
theorem test_control :
    after (fun t => (t.pc, t.mode)) (exec .break_ (classicAt 0x10)) = some (0x11#22, Mode.stopped) ∧
    after (fun t => (t.pc, t.mode)) (exec .break_ { classicAt 0x10 with cfg := { classic with ocdEnabled := false } }) =
      some (0x11#22, Mode.running) ∧
    after (·.pc) (exec .nop (classicAt 5)) = some 6#22 ∧
    after (fun t => (t.pc, t.env.trace)) (exec .wdr (classicAt 7)) = some (8#22, [.watchdogRestart]) ∧
    after (fun t => (t.pc, t.mode)) (exec .sleep (classicAt 1)) = some (2#22, Mode.sleeping) := by
  decide

/-- The three steps of the worked example of R412: SEI, then SLEEP although a request is pending, then the interrupt. -/
theorem test_sei_sleep_interrupt :
    after (fun t => (t.pc, t.sreg.i, t.irqInhibit)) (step pending) = some (1#22, true, true) ∧
    after (fun t => (t.pc, t.mode, t.irqInhibit)) (step afterSei) = some (2#22, Mode.sleeping, false) ∧
    after (fun t => (t.pc, t.mode, t.sreg.i, t.sramByte 0x025F, t.sramByte 0x025E)) (step asleep) =
      some (4#22, Mode.running, false, some 0x02, some 0x00) := by
  decide

/-- `withFetchWord` puts the instruction where the next step fetches, interrupts enabled or not (R424). -/
theorem test_withFetchWord :
    after (fun t => (t.reg 1, t.pc)) (step ((holding [(2, 0x05)] 0x80).withFetchWord 16 0x0C12)) =
      some (0x05#8, 1#22) ∧
    after (·.pc) (step (State.reset.withFetchWord 32 0x1234940C)) = some 0x1234#22 := by
  decide

/-- Nothing is loaded at reset: the word there is no instruction (R132; logs 6 and 7). -/
theorem test_step_from_reset : stopOf (step State.reset) = some (.fault (.illegalInstruction 0 0xFFFF)) := by
  decide

/-! ### Witnesses: for every statement with hypotheses, states and operands that meet them, at the ends of their ranges -/

/-- Two registers at the low end of AVRrc and at both ends of the others. -/
theorem test_meets_registers :
    (State.resetOf reduced).hasReg 16 = true ∧ (State.resetOf reduced).hasReg 31 = true ∧
    State.reset.hasReg 0 = true ∧ State.reset.hasReg 31 = true := by
  decide

theorem test_meets_DecodeOfEncode :
    Instr.wf (.ldsRc 16 0x7F#7) = true ∧ Instr.encodableOn .avrRc (.ldsRc 16 0x7F#7) = true ∧
    Instr.wf (.lddZ 31 63#6) = true ∧ Instr.encodableOn .avr (.lddZ 31 63#6) = true := by
  decide

theorem test_meets_EncodeOfDecode :
    decodeWords .avrRc 0xA000#16 0#16 = .ok (.ldsRc 16 0#7) ∧
    decodeWords .avr 0x95FF#16 0xFFFF#16 = .ok (.call 0x3FFFFF#22) := by
  decide

theorem test_meets_ReducedCoreOverlay :
    0xA000#16 &&& 0xF000#16 = 0xA000#16 ∧ 0xAFFF#16 &&& 0xF000#16 = 0xA000#16 ∧
    decodeWords .avrRc 0xAFFF#16 0#16 = .ok (.stsRc 0x7F#7 31) ∧ decodeWords .avrE 0xA000#16 0#16 = .ok (.lddZ 0 32#6) ∧
    decodeWords .avrE 0xAFFF#16 0#16 = .ok (.stdY 63#6 31) := by
  decide

theorem test_meets_SkipLength :
    decodeWords .avr 0x9000#16 0#16 = .ok (.lds 0 0#16) ∧ decodeWords .avrRc 0x9000#16 0#16 = .ok (.lds 0 0#16) := by
  decide

theorem test_meets_AddForms : (State.resetOf reduced).hasReg 16 = true ∧ State.reset.hasReg 0 = true := by decide

theorem test_meets_SubForms : (State.resetOf reduced).hasReg 16 = true ∧ State.reset.hasReg 0 = true := by decide

theorem test_meets_CompareForms : (State.resetOf reduced).hasReg 16 = true ∧ State.reset.hasReg 0 = true := by decide

theorem test_meets_WordImmediateForms : Reg.isWordPair 24 = true ∧ Reg.isWordPair 30 = true := by decide

theorem test_meets_LogicForms : (State.resetOf reduced).hasReg 16 = true ∧ State.reset.hasReg 0 = true := by decide

theorem test_meets_ComNegIncDec : (State.resetOf reduced).hasReg 16 = true ∧ State.reset.hasReg 0 = true := by decide

theorem test_meets_CopyForms :
    (State.resetOf reduced).hasReg 16 = true ∧ State.reset.hasReg 0 = true ∧ Reg.isPair 0 = true ∧ Reg.isPair 30 = true := by
  decide

theorem test_meets_MultiplyForms : State.reset.cfg.core ≠ .avrRc := by decide

theorem test_meets_DesRound : (classicAt 0).cfg.core ≠ .avrRc := by decide

theorem test_meets_WordArithmeticFromBytes :
    State.reset.hasReg 2 = true ∧ State.reset.hasReg 3 = true ∧ State.reset.hasReg 0 = true ∧ State.reset.hasReg 1 = true ∧
    (2 : Reg) ≠ 3 ∧ (1 : Reg) ≠ 2 := by
  decide

theorem test_meets_ShiftLeftForms : (State.resetOf reduced).hasReg 16 = true ∧ State.reset.hasReg 0 = true := by decide

theorem test_meets_ShiftRightForms : (State.resetOf reduced).hasReg 16 = true ∧ State.reset.hasReg 0 = true := by decide

theorem test_meets_BitTransferForms : (State.resetOf reduced).hasReg 16 = true ∧ State.reset.hasReg 0 = true := by decide

/-- The three cases of an I/O location: a CPU register, the platform, nothing. -/
theorem test_meets_IoBitWriteForms :
    cpuIoAt (lowRampz 0).cfg 0x1B = some .rampz ∧ cpuIoAt classic 0 = none ∧ platformAnswers (classicAt 0) .io 0 = true ∧
    platformAnswers { classicAt 0 with cfg := { classic with platformAbsent := [(.io, 31)] } } .io 31 = false := by
  decide

/-- Room for a return address of two bytes at the bottom of SRAM, of three at its top; and a stack outside SRAM, where the
address goes to the platform or nowhere. -/
theorem test_meets_CallForms :
    StackRoom { classicAt 0 with sp := 0x0061 } (raBytes classic) ∧ StackRoom State.reset (raBytes State.reset.cfg) ∧
    (∃ u, { State.reset with sp := 0x1000 }.pushReturn 1 = .ok u) ∧
    { classicAt 0 with sp := 0x0460 }.pushReturn 1 = .error (.fault (.unmappedAccess .data 0x0460)) := by
  refine ⟨by unfold StackRoom; decide, by unfold StackRoom; decide, ⟨_, rfl⟩, rfl⟩

/-- The two bytes of a return address at the top of SRAM. -/
theorem test_meets_ReturnForms :
    StackHolds { ((classicAt 0).setSramByte 0x045E 0x12).setSramByte 0x045F 0x34 with sp := 0x045D }
      (fun k => if k = 1 then 0x12 else 0x34) := by
  refine ⟨by decide, fun k h1 h2 => ?_⟩
  have h : k = 1 ∨ k = 2 := by
    have : raBytes classic = 2 := by decide
    change k ≤ raBytes classic at h2
    omega
  rcases h with rfl | rfl <;> decide

theorem test_meets_CallThenReturn :
    (classicAt 0x3FFF).Inv ∧ StackRoom (classicAt 0x3FFF) (raBytes classic) := by
  exact ⟨by unfold State.Inv; decide, by unfold StackRoom; decide⟩

/-- A skip over the last word of program memory, and one beyond it. -/
theorem test_meets_RegisterSkips :
    (classicAt 0x3FFE).hasReg 4 = true ∧ (classicAt 0x3FFE).hasReg 31 = true ∧
    after (·.pc) (exec (.cpse 4 0) (classicAt 0x3FFE)) = some 0x4000#22 ∧
    stopOf (exec (.cpse 4 0) (classicAt 0x3FFF)) = some (.fault (.fetchOutOfRange 0x4000)) := by
  decide

theorem test_meets_IoSkips :
    ioByte (answering 0x01) 0 = some 0x01 ∧ ioByte (lowRampz 0x41) 0x1B = some 0x41 ∧
    ioByte { classicAt 0 with cfg := { classic with platformAbsent := [(.io, 31)] } } 31 = none := by
  decide

theorem test_meets_BranchAfterCompare : (State.resetOf reduced).hasReg 16 = true ∧ State.reset.hasReg 0 = true := by decide

theorem test_meets_WordCompareFromBytes :
    State.reset.hasReg 2 = true ∧ State.reset.hasReg 3 = true ∧ State.reset.hasReg 0 = true ∧
    State.reset.hasReg 1 = true := by
  decide

/-- A load from each region: the first register, an I/O register, the last byte of SRAM, program memory, nothing. -/
theorem test_meets_LoadForms :
    (classicAt 0).hasReg 1 = true ∧
    dataByte (classicAt 0) 0x0000 = some 0x00 ∧ dataByte (classicAt 0) 0x005F = some 0x00 ∧
    dataByte ((classicAt 0).setSramByte 0x045F 0x5A) 0x045F = some 0x5A ∧
    dataByte (State.resetOf reduced) 0x43FF = some 0xFF ∧ dataByte (classicAt 0) 0x0460 = none := by
  decide

/-- Destinations beside the pointer and one of its registers, with the pointer at the first byte of SRAM. -/
theorem test_meets_LoadUpdateForms :
    (classicAt 0).hasReg 25 = true ∧ (25 : Reg) ≠ Ptr.x.lo ∧ (27 : Reg) = Ptr.x.hi ∧
    dataByte (((classicAt 0).setReg 26 0x60).setSramByte 0x60 0xA0)
      (State.ptrGet (((classicAt 0).setReg 26 0x60).setSramByte 0x60 0xA0) .x % 2 ^ 16) = some 0xA0 ∧
    decremented ((classicAt 0).setReg 26 0x61) .x = 0x60 ∧
    dataByte ((((classicAt 0).setReg 26 0x61).setSramByte 0x60 0xA0).ptrSet .x 0x60) (0x60 % 2 ^ 16) = some 0xA0 := by
  decide

theorem test_meets_StoreForms :
    (classicAt 0).hasReg 1 = true ∧ writable (classicAt 0) 0x0000 = true ∧ writable (classicAt 0) 0x0060 = true ∧
    writable (classicAt 0) 0x045F = true ∧ writable (classicAt 0) 0x0460 = false ∧
    writable (State.resetOf reduced) 0x4000 = false := by
  decide

/-- A store beside the pointer, one of a register of the pointer, and one that lands on a register of the pointer. -/
theorem test_meets_StoreUpdateForms :
    (classicAt 0).hasReg 25 = true ∧ (25 : Reg) ≠ Ptr.x.lo ∧ (26 : Reg) = Ptr.x.lo ∧
    writable ((classicAt 0).setReg 26 0x60) (State.ptrGet ((classicAt 0).setReg 26 0x60) .x % 2 ^ 16) = true ∧
    dsMap classic (State.ptrGet ((classicAt 0).setReg 26 0x1A) .x % 2 ^ 16) = .reg Ptr.x.lo ∧
    dsMap classic (State.ptrGet ((classicAt 0).setReg 26 0x1B) .x % 2 ^ 16) = .reg Ptr.x.hi ∧
    writable (((classicAt 0).setReg 26 0x61).ptrSet .x 0x60)
      (decremented ((classicAt 0).setReg 26 0x61) .x % 2 ^ 16) = true := by
  decide

/-- A pre-decrement store that lands on the low and on the high register of its pointer. -/
theorem test_meets_StoreUpdateForms_landing :
    dsMap classic (decremented ((classicAt 0).setReg 26 0x1B) .x % 2 ^ 16) = .reg Ptr.x.lo ∧
    dsMap classic (decremented ((classicAt 0).setReg 26 0x1C) .x % 2 ^ 16) = .reg Ptr.x.hi ∧
    stopOf (exec (.stXDec 0) ((classicAt 0).setReg 26 0x1C)) = some (.fault (.undefinedOperands 0)) ∧
    after (·.reg 25) (exec (.stXDec 26) ((classicAt 0).setReg 26 0x1A)) = none ∧
    after (·.reg 25) (exec (.stXDec 0) (((classicAt 0).setReg 26 0x1A).setReg 0 0x77)) = some 0x77#8 := by
  decide

theorem test_meets_DirectForms :
    State.reset.hasReg 0 = true ∧ (State.resetOf reduced).hasReg 16 = true ∧
    dataByte ((State.resetOf reduced).setSramByte 0x40 0x5A) 0x40 = some 0x5A ∧
    writable (State.resetOf reduced) 0xBF = true ∧ writable (classicAt 0) 0x0460 = false := by
  decide

theorem test_meets_InOutForms :
    (State.resetOf reduced).hasReg 16 = true ∧ ioByte (holding [] 0x83) 0x3F = some 0x83 ∧
    ioByte (answering 0x04) 0x16 = some 0x04 ∧
    platformAnswers { classicAt 0 with cfg := { classic with platformAbsent := [(.io, 0)] } } .io 0 = false := by
  decide

/-- A stack at the top of SRAM, empty and with a byte on it. -/
theorem test_meets_PushPopForms :
    (classicAt 0).hasReg 14 = true ∧ (classicAt 0).hasReg 13 = true ∧
    writable { classicAt 0 with sp := 0x045F } 0x045F = true ∧
    dataByte { (classicAt 0).setSramByte 0x045F 0x5A with sp := 0x045F } 0x045F = some 0x5A ∧
    StackRoom { classicAt 0 with sp := 0x045F } 1 ∧ StackRoom { classicAt 0 with sp := 0x0060 } 1 := by
  exact ⟨by decide, by decide, by decide, by decide, by unfold StackRoom; decide, by unfold StackRoom; decide⟩

/-- Z at the first byte of SRAM, written, and just below it. -/
theorem test_meets_ReadModifyWriteForms :
    State.reset.hasReg 16 = true ∧
    dsMap State.reset.cfg (State.ptrGet (holding [(31, 0x20)] 0) .z % 2 ^ State.reset.cfg.dsBits) = .sram ∧
    ((holding [(31, 0x20)] 0).setSramByte 0x2000 0x5A).sramByte 0x2000 = some 0x5A ∧
    dsMap State.reset.cfg (State.ptrGet (holding [(31, 0x1F), (30, 0xFF)] 0) .z % 2 ^ State.reset.cfg.dsBits) ≠ .sram := by
  decide

/-- Every case of `DataSpaceRead` and `DataSpaceWrite` that stops: a register of AVRrc, absent I/O, unwritten SRAM, beyond
FLASHEND, nothing there. -/
theorem test_meets_DataSpaceRead :
    dataByte { State.resetOf classic with cfg := { classic with core := .avrRc } } 0x0F = none ∧
    dataByte { classicAt 0 with cfg := { classic with platformAbsent := [(.io, 0)] } } 0x20 = none ∧
    dataByte (classicAt 0) 0x60 = none ∧
    dataByte { State.resetOf reduced with cfg := { reduced with flashEnd := 0 } } 0x4002 = none ∧
    dataByte (classicAt 0) 0x10000 = none := by
  decide

/-- Each CPU register of the default device at its address. -/
theorem test_meets_IoRegisters :
    State.reset.Inv ∧ cpuIoAt defaultDevice 0x3F = some .sreg ∧ cpuIoAt defaultDevice 0x3D = some .spl ∧
    cpuIoAt defaultDevice 0x3E = some .sph ∧ cpuIoAt defaultDevice 0x39 = some .rampx ∧
    cpuIoAt defaultDevice 0x3A = some .rampy ∧ cpuIoAt defaultDevice 0x3B = some .rampz ∧
    cpuIoAt defaultDevice 0x38 = some .rampd ∧ cpuIoAt defaultDevice 0x3C = some .eind := by
  exact ⟨by unfold State.Inv; decide, by decide⟩

/-- The last byte of program memory, and the first beyond it. -/
theorem test_meets_LpmForms :
    (classicAt 0).hasReg 0 = true ∧ (classicAt 0).hasReg 29 = true ∧ lpmAddress (tableAt 0x7FFF) / 2 ≤ classic.flashEnd ∧
    ¬ lpmAddress (tableAt 0x8000) / 2 ≤ classic.flashEnd := by
  decide

theorem test_meets_ElpmForms :
    State.reset.hasReg 0 = true ∧ elpmAddress (extendedTable 0x7F 0xFF 0xFF) / 2 ≤ defaultDevice.flashEnd ∧
    ¬ elpmAddress (extendedTable 0x80 0x00 0x00) / 2 ≤ defaultDevice.flashEnd := by
  decide

/-- A word at the last address of program memory, with the latch set, with I clear, and with I set and no request. -/
theorem test_meets_StepPerformsDecoded :
    accepted classic = true ∧ (withWord (classicAt 0x3FFF) 0x3FFF 0x0C12).mode = .running ∧
    decodeBytes .avrE [(withWord (classicAt 0x3FFF) 0x3FFF 0x0C12).flashByte 0x7FFE,
      (withWord (classicAt 0x3FFF) 0x3FFF 0x0C12).flashByte 0x7FFF,
      (withWord (classicAt 0x3FFF) 0x3FFF 0x0C12).flashByte 0x8000,
      (withWord (classicAt 0x3FFF) 0x3FFF 0x0C12).flashByte 0x8001] = .ok (.add 1 2, [0xFF, 0xFF]) ∧
    0x3FFF + Instr.words (.add 1 2) ≤ classic.flashEnd + 1 ∧ available classic .add = true ∧
    (classicAt 0x3FFF).sreg.i = false ∧ ((classicAt 0x3FFF).setIrqInhibit true).irqInhibit = true ∧
    ((classicAt 0x3FFF).setSreg (Sreg.ofByte 0x80)).sreg.i = true ∧ 
    (noRequest (classicAt 0x3FFF)).nextRequest.1 = none := by
  decide

/-- The four ways a fetch stops, at the end of program memory. -/
theorem test_meets_FetchStops :
    accepted classic = true ∧ (classicAt 0x4000).mode = .running ∧ (classicAt 0x4000).sreg.i = false ∧
    stopOf (step (classicAt 0x4000)) = some (.fault (.fetchOutOfRange 0x4000)) ∧
    stopOf (step (classicAt 0x3FFF)) = some (.fault (.illegalInstruction 0x3FFF 0xFFFF)) ∧
    stopOf (step (withWord (classicAt 0x3FFF) 0x3FFF 0x940B)) = some (.fault (.unavailableInstruction 0x3FFF .des)) ∧
    stopOf (step (withWord (classicAt 0x3FFF) 0x3FFF 0x940C)) = some (.fault (.fetchOutOfRange 0x4000)) := by
  decide

theorem test_meets_ResetMeetsInvariant :
    accepted defaultDevice = true ∧ accepted classic = true ∧ accepted reduced = true := by
  decide

theorem test_meets_StepKeepsInvariant :
    (withWord (classicAt 0x3FFF) 0x3FFF 0x0C12).Inv ∧
    ∃ t, step (withWord (classicAt 0x3FFF) 0x3FFF 0x0C12) = .next t := by
  exact ⟨by unfold State.Inv; decide, _, rfl⟩

/-- A step, and the launch of a device with two words of program memory. -/
theorem test_meets_ProgramMemoryConstant :
    (∃ t, step (withWord (classicAt 0) 0 0x920F) = .next t) ∧
    accepted { classic with flashEnd := 1 } = true ∧ [0x0C12#16, 0xCFFF#16].length = 1 + 1 ∧
    (State.launch { classic with flashEnd := 1 } [0x0C12, 0xCFFF]).map
      (fun s => (s.flashWord 0, s.flashWord 1, s.flashByte 2)) = some (0x0C12#16, 0xCFFF#16, 0xFF#8) ∧
    State.launch { classic with flashEnd := 1 } [0x0C12] = none :=
  ⟨⟨_, rfl⟩, by decide, by decide, by decide, by decide⟩

/-- A request at a boundary with the stack at the bottom of SRAM, running and asleep. -/
theorem test_meets_InterruptEntry :
    accepted classic = true ∧ asleep.mode ≠ .stopped ∧ asleep.irqInhibit = false ∧ asleep.sreg.i = true ∧
    asleep.nextRequest.1 = some 4 ∧ StackRoom { asleep with sp := 0x0061 } (raBytes classic) := by
  exact ⟨by decide, by decide, by decide, by decide, by decide, by unfold StackRoom; decide⟩

theorem test_meets_InterruptRoundTrip :
    asleep.Inv ∧ asleep.mode ≠ .stopped ∧ asleep.irqInhibit = false ∧ asleep.sreg.i = true ∧
    asleep.nextRequest.1 = some 4 ∧ StackRoom asleep (raBytes classic) := by
  exact ⟨by unfold State.Inv; decide, by decide, by decide, by decide, by decide, by unfold StackRoom; decide⟩

/-- SEI before a NOP, the request waiting. -/
theorem test_meets_SeiShieldsOneInstruction :
    accepted classic = true ∧ (withWord pending 1 0x0000).mode = .running ∧
    (withWord pending 1 0x0000).nextRequest.1 = some 4 ∧
    ∃ t, exec .sei (withWord pending 1 0x0000) = .next t ∧ t.fetch = .ok .nop ∧
      ∃ u, step t = .next u ∧ u.irqInhibit = false ∧ u.sreg.i = true ∧ u.mode ≠ .stopped :=
  ⟨by decide, by decide, by decide, _, rfl, rfl, _, rfl, by decide, by decide, by decide⟩

/-- Stopped; asleep with I clear, with no request, and woken. -/
theorem test_meets_SleepingAndStopped :
    accepted classic = true ∧ ((classicAt 0).setMode .stopped).mode = .stopped ∧
    ((classicAt 0).setMode .sleeping).sreg.i = false ∧ asleep.irqInhibit = false ∧ asleep.sreg.i = true ∧
    (noRequest asleep).nextRequest.1 = none ∧
    ∃ t, asleep.mode = .sleeping ∧ step asleep = .next t ∧ t.mode = .running :=
  ⟨by decide, by decide, by decide, by decide, by decide, by decide, _, by decide, rfl, by decide⟩

/-- SLEEP changes the mode, SEI the latch. -/
theorem test_meets_ModeAndLatchWriters :
    (∃ t, exec .sleep (classicAt 0) = .next t ∧ t.mode ≠ (classicAt 0).mode) ∧
    ∃ t, exec (.bset 7) (classicAt 0) = .next t ∧ t.irqInhibit ≠ (classicAt 0).irqInhibit :=
  ⟨⟨_, rfl, by decide⟩, _, rfl, by decide⟩

/-- An instruction that writes R16 on AVRrc, and the highest register it does not have. -/
theorem test_meets_ReducedCoreRegisters :
    (State.resetOf reduced).cfg.core = .avrRc ∧ (∃ t, exec (.ldi 16 0xFF#8) (State.resetOf reduced) = .next t) ∧
    (15 : Reg).val < 16 ∧
    stopOf (exec (.inc 15) (State.resetOf reduced)) = some (.fault (.registerOutOfRange 0 15)) :=
  ⟨by decide, ⟨_, rfl⟩, by decide, by decide⟩

/-- One configuration of each refused kind, one step away from an accepted one. -/
theorem test_meets_RefusedConfigurations :
    (available { defaultDevice with pcBits := 16 } .eicall = true ∧ ({ defaultDevice with pcBits := 16 } : Config).pcBits ≤ 16) ∧
    (available { defaultDevice with missing := [.eicall], pcBits := 16 } .eijmp = true) ∧
    (available { defaultDevice with hasEind := false } .eijmp = true ∧
      ({ defaultDevice with hasEind := false } : Config).hasEind = false) ∧
    (({ classic with dsBits := 8, hasRampX := true } : Config).dsBits = 8) ∧
    (({ classic with nregs := 16 } : Config).nregs ≠ if classic.core = .avrRc then 16 else 32) := by
  decide

/-- A two-word instruction at the last addresses: the Program Counter wraps on a device whose program memory fills it. -/
theorem test_meets_SequentialAdvance :
    changesFlow (Instr.mnemonic (.sts 0x2000#16 5)) = false ∧
    after (·.pc) (exec (.sts 0x2000#16 5) { State.reset with pc := 0x3FFFFE }) = some 0#22 := by
  decide

end Sys2Proof.Tests
end

section
/-! The fetch: how the decoder uses the second word, what a step finds at a boundary and what it does with it. -/

/-! ### The decoder and the second word -/

namespace Sys2Proof

/-- What the fetch asks of an instruction before its second word is known: its name and its length
(00_scope.md R11). -/
def Instr.form (i : Instr) : Mnemonic × Nat := (i.mnemonic, i.words)

theorem Instr.form_eq_iff {i j : Instr} : i.form = j.form ↔ i.mnemonic = j.mnemonic ∧ i.words = j.words :=
  Prod.mk.injEq .. ▸ Iff.rfl

theorem Instr.words_eq_one_or_two (i : Instr) : i.words = 1 ∨ i.words = 2 := by
  cases i <;> simp [Instr.words]

theorem decodeLoads_form (w v v' : Word) :
    (decodeLoads w v).map Instr.form = (decodeLoads w v').map Instr.form := by
  unfold decodeLoads; split <;> rfl

theorem decodeStores_form (w v v' : Word) :
    (decodeStores w v).map Instr.form = (decodeStores w v').map Instr.form := by
  unfold decodeStores; split <;> rfl

theorem decodeOneOperand_form (w v v' : Word) :
    (decodeOneOperand w v).map Instr.form = (decodeOneOperand w v').map Instr.form := by
  unfold decodeOneOperand; split <;> rfl

theorem decodeGroup9_form (w v v' : Word) :
    (decodeGroup9 w v).map Instr.form = (decodeGroup9 w v').map Instr.form := by
  unfold decodeGroup9
  split
  case h_1 | h_2 => exact decodeLoads_form w v v'
  case h_3 | h_4 => exact decodeStores_form w v v'
  case h_5 | h_6 => exact decodeOneOperand_form w v v'
  all_goals rfl

/-- The first word alone decides whether there is an instruction, which one, and how long it is: the second word is an
operand (30_encoding.md R128). Of the sixteen groups only `1001 ...` reads it. -/
theorem decodeWords_form (c : Cpu) (w v v' : Word) :
    (decodeWords c w v).map Instr.form = (decodeWords c w v').map Instr.form := by
  unfold decodeWords
  split
  case h_10 => exact decodeGroup9_form w v v'
  all_goals rfl

theorem form_eq_of_decodeWords {c : Cpu} {w v v' : Word} {i j : Instr} (hi : decodeWords c w v = .ok i)
    (hj : decodeWords c w v' = .ok j) : i.form = j.form := by
  have h := decodeWords_form c w v v'
  rw [hi, hj] at h
  exact Except.ok.inj h

/-- Decoding four bytes that stand for an instruction: the first word names it, and the second is used where the
instruction has two. -/
theorem decodeBytes_four_ok {c : Cpu} {b0 b1 b2 b3 : Byte} {i : Instr} {rest : List Byte}
    (h : decodeBytes c [b0, b1, b2, b3] = .ok (i, rest)) :
    ∃ j, decodeWords c (wordOfBytes b0 b1) 0#16 = .ok j ∧
      decodeWords c (wordOfBytes b0 b1) (if j.words = 2 then wordOfBytes b2 b3 else 0#16) = .ok i := by
  simp only [decodeBytes] at h
  split at h
  · cases h
  next j hj =>
    refine ⟨j, hj, ?_⟩
    split at h
    next one => cases h; simpa [one] using hj
    next notOne =>
      have two : j.words = 2 := j.words_eq_one_or_two.resolve_left notOne
      split at h
      · cases h
      next k hk => cases h; simpa [two] using hk

end Sys2Proof

/-! ### The fetch -/

namespace Sys2Proof.Machine

@[simp] theorem State.fetch_setIrqInhibit (s : State) (x : Bool) : (s.setIrqInhibit x).fetch = s.fetch := rfl

@[simp] theorem State.fetch_setEnv (s : State) (e : Env) : (s.setEnv e).fetch = s.fetch := rfl

/-- A word of program memory that is read lies at most at `FLASHEND` (20_memory.md R97). -/
theorem State.progWord_ok {s : State} {a : Nat} {w : Word} :
    s.progWord a = .ok w ↔ a ≤ s.cfg.flashEnd ∧ s.flashWord a = w := by
  unfold State.progWord
  split
  next beyond => exact iff_of_false (raise_ne_ok _ _) (by omega)
  next inside => simp [Nat.le_of_not_lt inside]

theorem State.decoded_ok {s : State} {w0 w1 : Word} {i : Instr} :
    s.decoded w0 w1 = .ok i ↔ decodeWords s.cfg.core w0 w1 = .ok i := by
  unfold State.decoded
  split <;> simp_all

theorem State.requireAvailable_ok {s : State} {i : Instr} {u : Unit} :
    s.requireAvailable i = .ok u ↔ available s.cfg i.mnemonic = true := by
  unfold State.requireAvailable
  split <;> simp_all

theorem State.secondWord_ok {s : State} {i : Instr} {w : Word} :
    s.secondWord i = .ok w ↔
      (i.words = 2 → s.pc.toNat + 1 ≤ s.cfg.flashEnd) ∧
        (if i.words = 2 then s.flashWord (s.pc.toNat + 1) else 0#16) = w := by
  unfold State.secondWord
  split
  next two => simp [State.progWord_ok, two]
  next notTwo => simp [notTwo]

/-- The fetch answers exactly where the first word is inside program memory and decodes to an instruction the device has,
and the second word, where there is one, is inside program memory too (00_scope.md R11). -/
theorem State.fetch_ok {s : State} {i : Instr} :
    s.fetch = .ok i ↔
      s.pc.toNat ≤ s.cfg.flashEnd ∧ ∃ j, decodeWords s.cfg.core (s.flashWord s.pc.toNat) 0#16 = .ok j ∧
        available s.cfg j.mnemonic = true ∧ (j.words = 2 → s.pc.toNat + 1 ≤ s.cfg.flashEnd) ∧
        decodeWords s.cfg.core (s.flashWord s.pc.toNat)
          (if j.words = 2 then s.flashWord (s.pc.toNat + 1) else 0#16) = .ok i := by
  simp only [State.fetch, Res.bind_ok, State.progWord_ok, State.decoded_ok, State.requireAvailable_ok,
    State.secondWord_ok]
  constructor
  · rintro ⟨_, ⟨hpc, rfl⟩, j, hj, _, hav, _, ⟨hsecond, rfl⟩, hi⟩
    exact ⟨hpc, j, hj, hav, hsecond, hi⟩
  · rintro ⟨hpc, j, hj, hav, hsecond, hi⟩
    exact ⟨_, ⟨hpc, rfl⟩, j, hj, (), hav, _, ⟨hsecond, rfl⟩, hi⟩

/-- The fetch answers what the bytes at the Program Counter decode to, where all of it is inside program memory and the
device has it. The availability test is made on the first word's decoding, which has the same name. -/
theorem State.fetch_of_decodeBytes {s : State} {i : Instr} {rest : List Byte}
    (hdec : decodeBytes s.cfg.core [s.flashByte (2 * s.pc.toNat), s.flashByte (2 * s.pc.toNat + 1),
      s.flashByte (2 * s.pc.toNat + 2), s.flashByte (2 * s.pc.toNat + 3)] = .ok (i, rest))
    (hend : s.pc.toNat + i.words ≤ s.cfg.flashEnd + 1) (hav : available s.cfg i.mnemonic = true) :
    s.fetch = .ok i := by
  obtain ⟨j, hj, hi⟩ := decodeBytes_four_ok hdec
  obtain ⟨hname, hwords⟩ := Instr.form_eq_iff.1 (form_eq_of_decodeWords hi hj)
  have hlen := i.words_eq_one_or_two
  exact State.fetch_ok.2 ⟨by omega, j, hj, hname ▸ hav, by omega, hi⟩

/-! ### The boundary and the step -/

theorem State.pastCheck_of_running {s : State} (h : s.mode = .running) : s.pastCheck = .instruction s := by
  simp [State.pastCheck, h]

/-- With the latch set or I clear the controller is not asked (60_exceptions.md R424). -/
theorem State.boundary_of_running_unasked {s : State} (hmode : s.mode = .running)
    (h : s.irqInhibit = true ∨ s.sreg.i = false) : s.boundary = .instruction (s.setIrqInhibit false) := by
  have hcond : (s.irqInhibit || !s.sreg.i) = true := by simpa using h
  simp [State.boundary, hmode, hcond, State.pastCheck_of_running]

/-- With interrupts enabled the controller is asked, and its answer is used up (60_exceptions.md R424). -/
theorem State.boundary_of_running_no_request {s : State} (hmode : s.mode = .running) (hlatch : s.irqInhibit = false)
    (hi : s.sreg.i = true) (hreq : s.nextRequest.1 = none) :
    s.boundary = .instruction ((s.setIrqInhibit false).setEnv s.nextRequest.2) := by
  have hpair : s.nextRequest = (none, s.nextRequest.2) := Prod.ext hreq rfl
  unfold State.boundary
  rw [hpair]
  simp [hmode, hlatch, hi, State.pastCheck_of_running]

theorem step_of_fetch {s t : State} {i : Instr} (hcfg : accepted s.cfg = true) (hbound : s.boundary = .instruction t)
    (hfetch : t.fetch = .ok i) : step s = exec i t := by
  simp [step, hcfg, hbound, hfetch]

/-- Settles O48: both boundaries leave the fetch as it is, and the fetch answers the decoded instruction. -/
theorem stepPerformsDecoded : Obligations.StepPerformsDecoded := by
  intro s i rest hcfg hmode hdec hend hav
  have hfetch : s.fetch = .ok i := State.fetch_of_decodeBytes hdec hend hav
  constructor
  · intro h
    exact step_of_fetch hcfg (State.boundary_of_running_unasked hmode h) (by simpa using hfetch)
  · intro hlatch hi hreq
    exact step_of_fetch hcfg (State.boundary_of_running_no_request hmode hlatch hi hreq) (by simpa using hfetch)

end Sys2Proof.Machine
end

section
/-! What an instruction can do, said once for all of them: but for the mode and the latch it keeps what the shared operations
keep, and unless it changes the flow it ends at the next word. -/

namespace Sys2Proof.Machine

/-! ### The operations that leave the Program Counter where it is -/

/-- What an instruction does before it moves the Program Counter: everything `Kept` says, and the Program Counter stays. -/
structure KeptInPlace (s t : State) : Prop where
  kept : Kept s t
  pc : t.pc = s.pc

theorem KeptInPlace.refl (s : State) : KeptInPlace s s := ⟨Kept.refl s, rfl⟩

theorem KeptInPlace.trans {s t u : State} (h : KeptInPlace s t) (k : KeptInPlace t u) : KeptInPlace s u :=
  ⟨h.kept.trans k.kept, k.pc.trans h.pc⟩

theorem ControlKept.keptInPlace {s t : State} (h : ControlKept s t) (k : Kept s t) : KeptInPlace s t := ⟨k, h.2.1⟩

theorem KeptInPlace.setSreg (s : State) (f : Sreg) : KeptInPlace s (s.setSreg f) := ⟨Kept.setSreg s f, rfl⟩

theorem KeptInPlace.record (s : State) (e : Event) : KeptInPlace s (s.record e) := ⟨Kept.record s e, rfl⟩

theorem KeptInPlace.writeReg {s t : State} {i : Reg} {v : Byte} (h : s.writeReg i v = .ok t) : KeptInPlace s t := by
  refine ⟨Kept.writeReg h, ?_⟩
  obtain ⟨-, rfl⟩ := State.writeReg_ok.1 h
  rfl

theorem KeptInPlace.writePair {s t : State} {i : Reg} {v : Word} (h : s.writePair i v = .ok t) : KeptInPlace s t := by
  refine ⟨Kept.writePair h, ?_⟩
  obtain ⟨-, -, rfl⟩ := State.writePair_ok.1 h
  rfl

theorem KeptInPlace.writeBlock {s t : State} {b : Reg} {v : BitVec 64} {n : Nat} (h : s.writeBlock b v n = .ok t) :
    KeptInPlace s t := by
  induction n generalizing t with
  | zero => cases h; exact KeptInPlace.refl s
  | succ n ih =>
    obtain ⟨u, hu, ht⟩ := Res.bind_ok.1 h
    exact (ih hu).trans (KeptInPlace.writeReg ht)

theorem KeptInPlace.ioRead {s t : State} {a : Nat} {v : Byte} (h : s.ioRead a = .ok (v, t)) : KeptInPlace s t :=
  ⟨Kept.ioRead h, by rw [State.ioRead_env h]; rfl⟩

theorem KeptInPlace.ioWrite {s t : State} {a : Nat} {v : Byte} (h : s.ioWrite a v = .ok t) : KeptInPlace s t :=
  (State.ioWrite_control h).keptInPlace (Kept.ioWrite h)

theorem State.ioBitWrite_control {s t : State} {a : Nat} {b : Bit} {x : Bool} (h : s.ioBitWrite a b x = .ok t) :
    ControlKept s t := by
  unfold State.ioBitWrite at h
  split at h
  · cases h; exact State.cpuIoWrite_control _ _ _
  · unfold State.periphBitWrite at h
    split at h
    · cases h
    · cases h; exact ⟨rfl, rfl, rfl, rfl, rfl⟩

theorem KeptInPlace.ioBitWrite {s t : State} {a : Nat} {b : Bit} {x : Bool} (h : s.ioBitWrite a b x = .ok t) :
    KeptInPlace s t :=
  (State.ioBitWrite_control h).keptInPlace (Kept.ioBitWrite h)

theorem KeptInPlace.memRead {s t : State} {a : Nat} {v : Byte} (h : s.memRead a = .ok (v, t)) : KeptInPlace s t :=
  ⟨Kept.memRead h, by rw [State.memRead_env h]; rfl⟩

theorem KeptInPlace.memWrite {s t : State} {a : Nat} {v : Byte} (h : s.memWrite a v = .ok t) : KeptInPlace s t :=
  (State.memWrite_control h).keptInPlace (Kept.memWrite h)

theorem KeptInPlace.push {s t : State} {v : Byte} (h : s.push v = .ok t) : KeptInPlace s t :=
  (State.push_control h).keptInPlace (Kept.push h)

theorem KeptInPlace.pop {s t : State} {v : Byte} (h : s.pop = .ok (v, t)) : KeptInPlace s t :=
  (State.pop_control h).keptInPlace (Kept.pop h)

theorem KeptInPlace.loadReg {s t : State} {d : Reg} {a : Nat} (h : s.loadReg d a = .ok t) : KeptInPlace s t := by
  simp only [State.loadReg, Res.bind_ok, Prod.exists] at h
  obtain ⟨v, u, hread, hwrite⟩ := h
  exact (KeptInPlace.memRead hread).trans (KeptInPlace.writeReg hwrite)

theorem KeptInPlace.storeReg {s t : State} {r : Reg} {a : Nat} (h : s.storeReg r a = .ok t) : KeptInPlace s t :=
  KeptInPlace.memWrite (State.storeReg_ok.1 h).2

theorem KeptInPlace.loadProg {s t : State} {d : Reg} {b : Nat} (h : s.loadProg d b = .ok t) : KeptInPlace s t := by
  obtain ⟨v, -, hwrite⟩ := Res.bind_ok.1 h
  exact KeptInPlace.writeReg hwrite

theorem State.setRamp_pc (s : State) (p : Ptr) (v : Byte) : (s.setRamp p v).pc = s.pc := by
  cases p <;> rfl

theorem State.ptrSet_pc (s : State) (p : Ptr) (v : Nat) : (s.ptrSet p v).pc = s.pc := by
  simp only [State.ptrSet]
  split
  · rfl
  · split
    · rfl
    · exact State.setRamp_pc _ _ _

theorem KeptInPlace.ptrSet (s : State) (p : Ptr) (v : Nat) : KeptInPlace s (s.ptrSet p v) :=
  ⟨Kept.ptrSet s p v, State.ptrSet_pc s p v⟩

theorem KeptInPlace.setZWord (s : State) (v : Nat) : KeptInPlace s (s.setZWord v) := ⟨Kept.setZWord s v, rfl⟩

theorem KeptInPlace.setZExt (s : State) (v : Nat) : KeptInPlace s (s.setZExt v) := by
  refine ⟨Kept.setZExt s v, ?_⟩
  unfold State.setZExt
  split <;> rfl

/-! ### Completion at the next word: one rule per operand form -/

/-- An instruction of `n` words that ends at the word after it: its effect, then `pc <- pc + n`. -/
def Completes (n : Nat) (s t : State) : Prop := ∃ u, KeptInPlace s u ∧ u.advance n = t

theorem Completes.kept {n : Nat} {s t : State} (h : Completes n s t) : Kept s t := by
  obtain ⟨u, hu, rfl⟩ := h
  exact hu.kept.trans (Kept.advance u n)

theorem State.advance_pcAdvanced (s : State) (n : Nat) : PcAdvanced n s (s.advance n) := by
  simp only [PcAdvanced, State.advance, State.setPc]
  norm_cast

theorem Completes.pcAdvanced {n : Nat} {s t : State} (h : Completes n s t) : PcAdvanced n s t := by
  obtain ⟨u, hu, rfl⟩ := h
  have hadv := State.advance_pcAdvanced u n
  rwa [PcAdvanced, hu.pc, hu.kept.cfg] at hadv

/-- The common shape of a rule: one operation, then `pc <- pc + n`. -/
theorem Completes.of_bind {n : Nat} {s t : State} {x : Res State} (hx : ∀ u, x = .ok u → KeptInPlace s u)
    (h : (x >>= fun u => pure (u.advance n)) = .ok t) : Completes n s t := by
  obtain ⟨u, hu, ht⟩ := Res.bind_ok.1 h
  exact ⟨u, hx u hu, Res.pure_ok.1 ht⟩

theorem Completes.writeReg {n : Nat} {s t : State} {d : Reg} {v : Byte}
    (h : (s.writeReg d v >>= fun u => pure (u.advance n)) = .ok t) : Completes n s t :=
  Completes.of_bind (fun _ => KeptInPlace.writeReg) h

theorem Completes.loadReg {n : Nat} {s t : State} {d : Reg} {a : Nat}
    (h : (s.loadReg d a >>= fun u => pure (u.advance n)) = .ok t) : Completes n s t :=
  Completes.of_bind (fun _ => KeptInPlace.loadReg) h

theorem Completes.storeReg {n : Nat} {s t : State} {r : Reg} {a : Nat}
    (h : (s.storeReg r a >>= fun u => pure (u.advance n)) = .ok t) : Completes n s t :=
  Completes.of_bind (fun _ => KeptInPlace.storeReg) h

theorem Completes.loadProg {n : Nat} {s t : State} {d : Reg} {b : Nat}
    (h : (s.loadProg d b >>= fun u => pure (u.advance n)) = .ok t) : Completes n s t :=
  Completes.of_bind (fun _ => KeptInPlace.loadProg) h

theorem Completes.ioBitWrite {n : Nat} {s t : State} {a : Nat} {b : Bit} {x : Bool}
    (h : (s.ioBitWrite a b x >>= fun u => pure (u.advance n)) = .ok t) : Completes n s t :=
  Completes.of_bind (fun _ => KeptInPlace.ioBitWrite) h

theorem State.twoReg_completes {s t : State} {d r : Reg} {f : Byte → Byte → Byte × Sreg} (h : s.twoReg d r f = .ok t) :
    Completes 1 s t := by
  simp only [State.twoReg, Res.bind_ok, Res.pure_ok] at h
  obtain ⟨_, -, _, -, u, hwrite, ht⟩ := h
  exact ⟨u, (KeptInPlace.setSreg s _).trans (KeptInPlace.writeReg hwrite), ht⟩

theorem State.oneReg_completes {s t : State} {d : Reg} {f : Byte → Byte × Sreg} (h : s.oneReg d f = .ok t) :
    Completes 1 s t := by
  simp only [State.oneReg, Res.bind_ok, Res.pure_ok] at h
  obtain ⟨_, -, u, hwrite, ht⟩ := h
  exact ⟨u, (KeptInPlace.setSreg s _).trans (KeptInPlace.writeReg hwrite), ht⟩

theorem State.testTwo_completes {s t : State} {d r : Reg} {f : Byte → Byte → Sreg} (h : s.testTwo d r f = .ok t) :
    Completes 1 s t := by
  simp only [State.testTwo, Res.bind_ok, Res.pure_ok] at h
  obtain ⟨_, -, _, -, ht⟩ := h
  exact ⟨_, KeptInPlace.setSreg s _, ht⟩

theorem State.testOne_completes {s t : State} {d : Reg} {f : Byte → Sreg} (h : s.testOne d f = .ok t) :
    Completes 1 s t := by
  simp only [State.testOne, Res.bind_ok, Res.pure_ok] at h
  obtain ⟨_, -, ht⟩ := h
  exact ⟨_, KeptInPlace.setSreg s _, ht⟩

theorem State.wordReg_completes {s t : State} {d : Reg} {f : Word → Word × Sreg} (h : s.wordReg d f = .ok t) :
    Completes 1 s t := by
  simp only [State.wordReg, Res.bind_ok, Res.pure_ok] at h
  obtain ⟨_, -, u, hwrite, ht⟩ := h
  exact ⟨u, (KeptInPlace.setSreg s _).trans (KeptInPlace.writePair hwrite), ht⟩

theorem State.multiply_completes {s t : State} {d r : Reg} {x y z : Bool} (h : s.multiply d r x y z = .ok t) :
    Completes 1 s t := by
  simp only [State.multiply, Res.bind_ok, Res.pure_ok] at h
  obtain ⟨_, -, _, -, u, hwrite, ht⟩ := h
  exact ⟨u, (KeptInPlace.setSreg s _).trans (KeptInPlace.writePair hwrite), ht⟩

theorem State.loadPtr_completes {s t : State} {d : Reg} {p : Ptr} {q : Nat} (h : s.loadPtr d p q = .ok t) :
    Completes 1 s t :=
  Completes.loadReg h

theorem State.loadPtrInc_completes {s t : State} {d : Reg} {p : Ptr} (h : s.loadPtrInc d p = .ok t) :
    Completes 1 s t := by
  simp only [State.loadPtrInc, Res.bind_ok, Res.pure_ok] at h
  obtain ⟨_, -, u, hload, ht⟩ := h
  exact ⟨_, (KeptInPlace.loadReg hload).trans (KeptInPlace.ptrSet u p _), ht⟩

theorem State.loadPtrDec_completes {s t : State} {d : Reg} {p : Ptr} (h : s.loadPtrDec d p = .ok t) :
    Completes 1 s t := by
  simp only [State.loadPtrDec, Res.bind_ok, Res.pure_ok] at h
  obtain ⟨_, -, u, hload, ht⟩ := h
  exact ⟨u, (KeptInPlace.ptrSet s p _).trans (KeptInPlace.loadReg hload), ht⟩

theorem State.storePtr_completes {s t : State} {r : Reg} {p : Ptr} {q : Nat} (h : s.storePtr r p q = .ok t) :
    Completes 1 s t :=
  Completes.storeReg h

theorem State.storePtrInc_completes {s t : State} {r : Reg} {p : Ptr} (h : s.storePtrInc r p = .ok t) :
    Completes 1 s t := by
  simp only [State.storePtrInc, Res.bind_ok, Res.pure_ok] at h
  obtain ⟨_, -, _, -, u, hstore, ht⟩ := h
  exact ⟨_, (KeptInPlace.storeReg hstore).trans (KeptInPlace.ptrSet u p _), ht⟩

theorem State.storePtrDec_completes {s t : State} {r : Reg} {p : Ptr} (h : s.storePtrDec r p = .ok t) :
    Completes 1 s t := by
  simp only [State.storePtrDec, Res.bind_ok, Res.pure_ok] at h
  obtain ⟨_, -, _, -, u, hstore, ht⟩ := h
  exact ⟨u, (KeptInPlace.ptrSet s p _).trans (KeptInPlace.storeReg hstore), ht⟩

theorem State.readModifyWrite_completes {s t : State} {d : Reg} {f : Byte → Byte → Byte}
    (h : s.readModifyWrite d f = .ok t) : Completes 1 s t := by
  simp only [State.readModifyWrite] at h
  split at h
  next inSram =>
    simp only [Res.bind_ok, Res.pure_ok, Prod.exists] at h
    obtain ⟨old, u, hread, _, -, w, hstore, x, hwrite, ht⟩ := h
    exact ⟨x, ((KeptInPlace.memRead hread).trans (KeptInPlace.memWrite hstore)).trans (KeptInPlace.writeReg hwrite), ht⟩
  next outside => cases h

/-! ### The instructions whose rule is their own -/

theorem execClr_completes {s t : State} {d : Reg} (h : execClr d s = .next t) : Completes 1 s t := by
  simp only [execClr, finish_next, Res.bind_ok, Res.pure_ok] at h
  obtain ⟨u, hwrite, ht⟩ := h
  exact ⟨_, (KeptInPlace.writeReg hwrite).trans (KeptInPlace.setSreg u _), ht⟩

theorem execMov_completes {s t : State} {d r : Reg} (h : execMov d r s = .next t) : Completes 1 s t := by
  obtain ⟨v, -, hrest⟩ := Res.bind_ok.1 (finish_next.1 h)
  exact Completes.writeReg hrest

theorem execMovw_completes {s t : State} {d r : Reg} (h : execMovw d r s = .next t) : Completes 1 s t := by
  obtain ⟨v, -, hrest⟩ := Res.bind_ok.1 (finish_next.1 h)
  exact Completes.of_bind (fun _ => KeptInPlace.writePair) hrest

theorem execDes_completes {s t : State} {K : BitVec 4} (h : execDes K s = .next t) : Completes 1 s t := by
  simp only [execDes, finish_next, Res.bind_ok, Res.pure_ok] at h
  obtain ⟨_, -, _, -, u, hdata, w, hkey, ht⟩ := h
  exact ⟨w, (KeptInPlace.writeBlock hdata).trans (KeptInPlace.writeBlock hkey), ht⟩

theorem execLpmZInc_completes {s t : State} {d : Reg} (h : execLpmZInc d s = .next t) : Completes 1 s t := by
  simp only [execLpmZInc, finish_next, Res.bind_ok, Res.pure_ok] at h
  obtain ⟨_, -, u, hload, ht⟩ := h
  exact ⟨_, (KeptInPlace.loadProg hload).trans (KeptInPlace.setZWord u _), ht⟩

theorem execElpmZInc_completes {s t : State} {d : Reg} (h : execElpmZInc d s = .next t) : Completes 1 s t := by
  simp only [execElpmZInc, finish_next, Res.bind_ok, Res.pure_ok] at h
  obtain ⟨_, -, u, hload, ht⟩ := h
  exact ⟨_, (KeptInPlace.loadProg hload).trans (KeptInPlace.setZExt u _), ht⟩

theorem execIn_completes {s t : State} {d : Reg} {A : BitVec 6} (h : execIn d A s = .next t) : Completes 1 s t := by
  simp only [execIn, finish_next, Res.bind_ok, Res.pure_ok, Prod.exists] at h
  obtain ⟨v, u, hread, w, hwrite, ht⟩ := h
  exact ⟨w, (KeptInPlace.ioRead hread).trans (KeptInPlace.writeReg hwrite), ht⟩

theorem execOut_completes {s t : State} {A : BitVec 6} {r : Reg} (h : execOut A r s = .next t) : Completes 1 s t := by
  obtain ⟨v, -, hrest⟩ := Res.bind_ok.1 (finish_next.1 h)
  exact Completes.of_bind (fun _ => KeptInPlace.ioWrite) hrest

theorem execPush_completes {s t : State} {r : Reg} (h : execPush r s = .next t) : Completes 1 s t := by
  obtain ⟨v, -, hrest⟩ := Res.bind_ok.1 (finish_next.1 h)
  exact Completes.of_bind (fun _ => KeptInPlace.push) hrest

theorem execPop_completes {s t : State} {d : Reg} (h : execPop d s = .next t) : Completes 1 s t := by
  simp only [execPop, finish_next, Res.bind_ok, Res.pure_ok, Prod.exists] at h
  obtain ⟨v, u, hpop, w, hwrite, ht⟩ := h
  exact ⟨w, (KeptInPlace.pop hpop).trans (KeptInPlace.writeReg hwrite), ht⟩

/-! ### The instructions that change the flow -/

theorem State.interruptReturn_kept {s t : State} (h : s.interruptReturn = .ok t) : Kept s t := by
  obtain ⟨a, u, hpop, rfl⟩ := State.interruptReturn_ok.1 h
  exact (((Kept.popReturn hpop).trans (Kept.setPc u a)).trans (Kept.hardwareIFlag _ true)).trans (Kept.record _ _)

theorem execRet_kept {s t : State} (h : execRet s = .next t) : Kept s t := by
  simp only [execRet, finish_next, Res.bind_ok, Res.pure_ok, Prod.exists] at h
  obtain ⟨a, u, hpop, rfl⟩ := h
  exact (Kept.popReturn hpop).trans (Kept.setPc u a)

/-- A call: the return address is pushed, then the Program Counter is set. -/
theorem Kept.call {s t : State} {a : Nat} {target : State → Int}
    (h : (s.pushReturn a >>= fun u => pure (u.setPc (target u))) = .ok t) : Kept s t := by
  obtain ⟨u, hpush, ht⟩ := Res.bind_ok.1 h
  exact Res.pure_ok.1 ht ▸ (Kept.pushReturn hpush).trans (Kept.setPc u _)

theorem execCpse_kept {s t : State} {d r : Reg} (h : execCpse d r s = .next t) : Kept s t := by
  simp only [execCpse, finish_next, Res.bind_ok] at h
  obtain ⟨_, -, _, -, hskip⟩ := h
  exact Kept.skip hskip

/-- A skip on a bit of a register. -/
theorem Kept.readReg_skip {s t : State} {r : Reg} {cond : Byte → Bool}
    (h : (s.readReg r >>= fun v => s.skip (cond v)) = .ok t) : Kept s t := by
  obtain ⟨v, -, hskip⟩ := Res.bind_ok.1 h
  exact Kept.skip hskip

/-- A skip on a bit of an I/O location, from the surroundings its read leaves. -/
theorem Kept.ioBitRead_skip {s t : State} {a : Nat} {b : Bit} {cond : Bool → Bool}
    (h : (s.ioBitRead a b >>= fun p => p.2.skip (cond p.1)) = .ok t) : Kept s t := by
  obtain ⟨⟨x, u⟩, hread, hskip⟩ := Res.bind_ok.1 h
  exact (Kept.ioBitRead hread).trans (Kept.skip hskip)

/-! ### Every instruction -/

/-- The mode an instruction leaves: SLEEP and an enabled BREAK set it (10_state.md R62). -/
def modeAfter (i : Instr) (s : State) : Mode :=
  match i with
  | .sleep => .sleeping
  | .break_ => if s.cfg.ocdEnabled then .stopped else s.mode
  | _ => s.mode

/-- The latch an instruction leaves: SEI, also written BSET 7, sets it (10_state.md R63). -/
def latchAfter (i : Instr) (s : State) : Bool :=
  match i with
  | .sei => true
  | .bset b => s.irqInhibit || decide (b = 7)
  | _ => s.irqInhibit

theorem modeAfter_ne {i : Instr} {s : State} (h : modeAfter i s ≠ s.mode) :
    i = .sleep ∨ (i = .break_ ∧ s.cfg.ocdEnabled = true) := by
  unfold modeAfter at h
  split at h
  · exact .inl rfl
  · split at h
    next enabled => exact .inr ⟨rfl, enabled⟩
    next => exact absurd rfl h
  · exact absurd rfl h

theorem latchAfter_ne {i : Instr} {s : State} (h : latchAfter i s ≠ s.irqInhibit) :
    i = .sei ∨ i = .bset 7 := by
  unfold latchAfter at h
  split at h
  · exact .inl rfl
  next b =>
    by_cases hb : b = 7
    · exact .inr (hb ▸ rfl)
    · exact absurd (by simp [hb]) h
  · exact absurd rfl h

/-- The state with the mode and the latch the instruction leaves: `s` itself but for SLEEP, BREAK and SEI. -/
def State.modeAndLatchAfter (s : State) (i : Instr) : State :=
  (s.setMode (modeAfter i s)).setIrqInhibit (latchAfter i s)

/-- Everything an instruction that answers can do. Beside the mode and the latch, it keeps what the shared operations keep,
and it ends at the word after it or is one of those that change the flow. -/
theorem exec_next_cases {i : Instr} {s t : State} (h : exec i s = .next t) :
    Completes i.words (s.modeAndLatchAfter i) t ∨
      (changesFlow i.mnemonic = true ∧ Kept (s.modeAndLatchAfter i) t) := by
  cases i with
  | add | adc | sub | sbc | and | or | eor => exact .inl (State.twoReg_completes (finish_next.1 h))
  | subi | sbci | andi | ori | com | neg | sbr | cbr | inc | dec | tst | lsl | lsr | rol | ror | asr | swap | bld =>
    exact .inl (State.oneReg_completes (finish_next.1 h))
  | adiw | sbiw => exact .inl (State.wordReg_completes (finish_next.1 h))
  | mul | muls | mulsu | fmul | fmuls | fmulsu => exact .inl (State.multiply_completes (finish_next.1 h))
  | cp | cpc => exact .inl (State.testTwo_completes (finish_next.1 h))
  | cpi | bst => exact .inl (State.testOne_completes (finish_next.1 h))
  | ser | ldi => exact .inl (Completes.writeReg (finish_next.1 h))
  | clr => exact .inl (execClr_completes h)
  | mov => exact .inl (execMov_completes h)
  | movw => exact .inl (execMovw_completes h)
  | des => exact .inl (execDes_completes h)
  | lds | ldsRc => exact .inl (Completes.loadReg (finish_next.1 h))
  | ldX | ldY | ldZ | lddY | lddZ => exact .inl (State.loadPtr_completes (finish_next.1 h))
  | ldXInc | ldYInc | ldZInc => exact .inl (State.loadPtrInc_completes (finish_next.1 h))
  | ldXDec | ldYDec | ldZDec => exact .inl (State.loadPtrDec_completes (finish_next.1 h))
  | sts | stsRc => exact .inl (Completes.storeReg (finish_next.1 h))
  | stX | stY | stZ | stdY | stdZ => exact .inl (State.storePtr_completes (finish_next.1 h))
  | stXInc | stYInc | stZInc => exact .inl (State.storePtrInc_completes (finish_next.1 h))
  | stXDec | stYDec | stZDec => exact .inl (State.storePtrDec_completes (finish_next.1 h))
  | xch | las | lac | lat => exact .inl (State.readModifyWrite_completes (finish_next.1 h))
  | in_ => exact .inl (execIn_completes h)
  | out => exact .inl (execOut_completes h)
  | push => exact .inl (execPush_completes h)
  | pop => exact .inl (execPop_completes h)
  | lpm | lpmZ | elpm | elpmZ => exact .inl (Completes.loadProg (finish_next.1 h))
  | lpmZInc => exact .inl (execLpmZInc_completes h)
  | elpmZInc => exact .inl (execElpmZInc_completes h)
  | spm | spmZInc => cases h
  | sbi | cbi => exact .inl (Completes.ioBitWrite (finish_next.1 h))
  | bset | bclr | sec | clc | sen | cln | sez | clz | sei | cli | ses | cls | sev | clv | set | clt | seh | clh =>
    cases h
    exact .inl ⟨_, KeptInPlace.setSreg _ _, rfl⟩
  | wdr =>
    cases h
    exact .inl ⟨_, KeptInPlace.record _ _, rfl⟩
  | nop | sleep | break_ =>
    cases h
    exact .inl ⟨_, KeptInPlace.refl _, rfl⟩
  | rjmp | ijmp | eijmp | jmp | brbs | brbc | breq | brne | brcs | brcc | brsh | brlo | brmi | brpl | brge | brlt | brhs
    | brhc | brts | brtc | brvs | brvc | brie | brid =>
    cases h
    exact .inr ⟨rfl, Kept.setPc _ _⟩
  | rcall | icall | eicall | call => exact .inr ⟨rfl, Kept.call (finish_next.1 h)⟩
  | ret => exact .inr ⟨rfl, execRet_kept h⟩
  | reti => exact .inr ⟨rfl, State.interruptReturn_kept (finish_next.1 h)⟩
  | cpse => exact .inr ⟨rfl, execCpse_kept h⟩
  | sbrc | sbrs => exact .inr ⟨rfl, Kept.readReg_skip (finish_next.1 h)⟩
  | sbic => exact .inr ⟨rfl, Kept.ioBitRead_skip (cond := not) (finish_next.1 h)⟩
  | sbis => exact .inr ⟨rfl, Kept.ioBitRead_skip (cond := id) (finish_next.1 h)⟩

theorem exec_kept {i : Instr} {s t : State} (h : exec i s = .next t) : Kept (s.modeAndLatchAfter i) t := by
  obtain hseq | ⟨-, hkept⟩ := exec_next_cases h
  · exact hseq.kept
  · exact hkept

/-- Settles O55: the Program Counter is moved last, by the length of the instruction. -/
theorem sequentialAdvance : Obligations.SequentialAdvance := by
  intro i s t hflow h
  obtain hseq | ⟨hchanges, -⟩ := exec_next_cases h
  · exact hseq.pcAdvanced
  · exact absurd hchanges (by simp [hflow])

/-- Settles O58: SLEEP, BREAK and SEI are the only arms outside `Kept`, which keeps what the controller will answer. -/
theorem modeAndLatchWriters : Obligations.ModeAndLatchWriters := by
  intro i s t h
  have hkept := exec_kept h
  exact ⟨fun hmode => modeAfter_ne fun same => hmode (hkept.mode.trans same),
    fun hlatch => latchAfter_ne fun same => hlatch (hkept.irq.trans same), hkept.req, hkept.asks⟩

end Sys2Proof.Machine
end

section
/-! AVRrc: which registers it lacks, and the instructions that stop where one is named first. -/

namespace Sys2Proof.Machine

theorem State.hasReg_of_avrRc {s : State} (h : s.cfg.core = .avrRc) (i : Reg) : s.hasReg i = decide (16 ≤ i.val) := by
  simp [State.hasReg, h]

/-- A rule that begins by reading a register the CPU lacks stops there (10_state.md R42). -/
theorem finish_readReg_of_lacking {s : State} {d : Reg} (h : s.hasReg d = false) (rest : Byte → Res State) :
    finish (s.readReg d >>= rest) = .fault (.registerOutOfRange s.pc.toNat d) := by
  simp only [State.readReg, h]
  rfl

/-- A rule that begins by writing a register the CPU lacks stops there (10_state.md R42). -/
theorem finish_writeReg_of_lacking {s : State} {d : Reg} (h : s.hasReg d = false) (v : Byte) (rest : State → Res State) :
    finish (s.writeReg d v >>= rest) = .fault (.registerOutOfRange s.pc.toNat d) := by
  simp only [State.writeReg, h]
  rfl

/-- Settles O59: no operation of an instruction reaches a register AVRrc lacks; of the 23 forms CLR alone writes Rd first, the
others read the register they name first. -/
theorem reducedCoreRegisters : Obligations.ReducedCoreRegisters := by
  intro s hcore
  refine ⟨fun i t h => (exec_kept h).low hcore, fun d r hd => ?_⟩
  have hlacks : s.hasReg d = false := by
    rw [State.hasReg_of_avrRc hcore]
    exact decide_eq_false (Nat.not_le_of_lt hd)
  have read := finish_readReg_of_lacking hlacks
  have written := finish_writeReg_of_lacking hlacks
  simp only [List.forall_mem_cons, List.not_mem_nil, false_implies, implies_true, and_true]
  exact ⟨read _, read _, read _, read _, read _, read _, read _, read _, read _, read _, read _, read _, read _, read _,
    read _, written _ _, read _, read _, read _, read _, read _, read _, read _⟩

end Sys2Proof.Machine
end

section
/-! What a step can do, and the invariant it keeps. -/

namespace Sys2Proof.Machine

/-! ### The boundary -/

/-- The state a boundary hands on. -/
def Boundary.state : Boundary → State
  | .idle s => s
  | .interrupt _ s => s
  | .instruction s => s

theorem State.pastCheck_state (s : State) : s.pastCheck.state = s := by
  unfold State.pastCheck
  split <;> rfl

/-- A boundary changes the latch and what the controller was asked, nothing else (60_exceptions.md R424). -/
theorem State.boundary_state (s : State) :
    s.boundary.state = s ∨ ∃ e, s.boundary.state = (s.setIrqInhibit false).setEnv e := by
  unfold State.boundary
  split
  next stopped => exact .inl rfl
  next =>
    split
    next unasked => exact .inr ⟨s.env, State.pastCheck_state _⟩
    next asked =>
      split
      next v e _ => exact .inr ⟨e, rfl⟩
      next e _ => exact .inr ⟨e, State.pastCheck_state _⟩

/-- With interrupts enabled and a request waiting, a boundary takes it, awake or asleep (60_exceptions.md R424). -/
theorem State.boundary_of_request {s : State} {v : PcWord} (hmode : s.mode ≠ .stopped) (hlatch : s.irqInhibit = false)
    (hi : s.sreg.i = true) (hreq : s.nextRequest.1 = some v) :
    s.boundary = .interrupt v ((s.setIrqInhibit false).setEnv s.nextRequest.2) := by
  have hpair : s.nextRequest = (some v, s.nextRequest.2) := Prod.ext hreq rfl
  unfold State.boundary
  rw [hpair]
  simp [hmode, hlatch, hi]

/-- A step that answers, from the state its boundary hands on: it stays there, enters an interrupt, or performs one
instruction (60_exceptions.md R424). -/
theorem step_next_cases {s t : State} (h : step s = .next t) :
    t = s.boundary.state ∨ (∃ v, s.boundary.state.interruptEntry v = .ok t) ∨
      ∃ i, s.boundary.state.fetch = .ok i ∧ exec i s.boundary.state = .next t := by
  unfold step at h
  split at h
  next =>
    split at h
    next u hb => cases h; exact .inl (by rw [hb]; rfl)
    next v u hb => exact .inr (.inl ⟨v, by rw [hb]; exact finish_next.1 h⟩)
    next u hb =>
      split at h
      next i hfetch => exact .inr (.inr ⟨i, by rw [hb]; exact ⟨hfetch, h⟩⟩)
      next e _ => cases finish_next.1 h
  next refused => cases h

/-! ### The invariant -/

theorem accepted_widths {cfg : Config} (h : accepted cfg = true) : cfg.pcBits ≤ 22 ∧ cfg.spBits ≤ 16 := by
  simp only [accepted, inRange, Bool.and_eq_true, decide_eq_true_eq] at h
  omega

/-- What the shared operations keep is enough for the invariant. -/
theorem Kept.inv {s t : State} (k : Kept s t) (h : s.Inv) : t.Inv := by
  obtain ⟨hcfg, hpc, hsp, hdata, hprogram, hsram⟩ := h
  obtain ⟨hpcBits, hspBits⟩ := accepted_widths hcfg
  unfold State.Inv
  rw [k.cfg, k.pmem]
  exact ⟨hcfg, k.pc hpcBits hpc, k.sp hspBits hsp, k.dm hdata, hprogram, k.sr hsram⟩

theorem State.inv_setMode {s : State} (m : Mode) : (s.setMode m).Inv ↔ s.Inv := Iff.rfl

theorem State.inv_setIrqInhibit {s : State} (x : Bool) : (s.setIrqInhibit x).Inv ↔ s.Inv := Iff.rfl

theorem State.inv_setEnv {s : State} (e : Env) : (s.setEnv e).Inv ↔ s.Inv := Iff.rfl

theorem State.Inv.boundary {s : State} (h : s.Inv) : s.boundary.state.Inv := by
  obtain hsame | ⟨e, he⟩ := s.boundary_state
  · rwa [hsame]
  · rw [he]
    exact (State.inv_setEnv e).2 ((State.inv_setIrqInhibit false).2 h)

theorem State.interruptEntry_kept {s t : State} {v : PcWord} (h : s.interruptEntry v = .ok t) :
    Kept (s.setMode .running) t := by
  obtain ⟨u, hpush, rfl⟩ := State.interruptEntry_ok.1 h
  exact (((Kept.pushReturn hpush).trans (Kept.hardwareIFlag u false)).trans (Kept.setPc _ _)).trans (Kept.record _ _)

theorem exec_inv {i : Instr} {s t : State} (h : exec i s = .next t) (hinv : s.Inv) : t.Inv :=
  (exec_kept h).inv ((State.inv_setIrqInhibit _).2 ((State.inv_setMode _).2 hinv))

/-- Settles O51: the boundary keeps the invariant, and so do interrupt entry and every instruction from there. -/
theorem stepKeepsInvariant : Obligations.StepKeepsInvariant := by
  intro s t hinv h
  have hboundary := hinv.boundary
  obtain rfl | ⟨v, hentry⟩ | ⟨i, -, hexec⟩ := step_next_cases h
  · exact hboundary
  · exact (State.interruptEntry_kept hentry).inv ((State.inv_setMode _).2 hboundary)
  · exact exec_inv hexec hboundary

/-! ### SEI and the instruction after it -/

theorem execSei_latch {s t : State} (h : exec .sei s = .next t) : t.irqInhibit = true := (exec_kept h).irq

/-- What the controller will answer survives any instruction. -/
theorem exec_nextRequest {i : Instr} {s t : State} (h : exec i s = .next t) : t.nextRequest.1 = s.nextRequest.1 :=
  (exec_kept h).nextRequest

/-- Settles O56: SEI leaves the latch set, so the controller is not asked before the next instruction; no instruction uses up
the request, so the boundary after that one finds it. -/
theorem seiShieldsOneInstruction : Obligations.SeiShieldsOneInstruction := by
  intro s t v j hcfg hmode hreq hsei hfetch
  have hkept : Kept (s.modeAndLatchAfter .sei) t := exec_kept hsei
  have hcfg' : accepted t.cfg = true := by rw [hkept.cfg]; exact hcfg
  have hmode' : t.mode = .running := hkept.mode.trans hmode
  have hstep : step t = exec j (t.setIrqInhibit false) :=
    step_of_fetch hcfg' (State.boundary_of_running_unasked hmode' (.inl (execSei_latch hsei))) hfetch
  refine ⟨hstep, fun u hu hlatch hi hrun => State.boundary_of_request hrun hlatch hi ?_⟩
  calc u.nextRequest.1 = (t.setIrqInhibit false).nextRequest.1 := exec_nextRequest (hstep ▸ hu)
    _ = t.nextRequest.1 := rfl
    _ = s.nextRequest.1 := exec_nextRequest hsei
    _ = some v := hreq

end Sys2Proof.Machine
end

section
/-! Data space and I/O space: what every read answers and what every write leaves, each as one equation over all regions. -/

namespace Sys2Proof.Machine

/-! ### Reads -/

/-- What a read answers that gives the byte `b` and leaves the state `t`, or stops with `f` where there is no byte. -/
def readResult (b : Option Byte) (t : State) (f : Fault) : Res (Byte × State) :=
  match b with
  | some v => .ok (v, t)
  | none => raise f

theorem Env.nextByte_trace (e : Env) : e.nextByte.2.trace = e.trace := by
  unfold Env.nextByte
  split <;> rfl

theorem State.isAbsent_eq (s : State) (space : Space) (a : Nat) : s.isAbsent space a = !platformAnswers s space a := by
  simp [State.isAbsent, platformAnswers]

/-- A platform read draws the next byte and leaves one event (20_memory.md R95). -/
theorem State.periphRead_eq (s : State) (space : Space) (a : Nat) :
    s.periphRead space a =
      readResult (if platformAnswers s space a then some s.env.nextByte.1 else none)
        (s.setEnv { s.env.nextByte.2 with trace := .periphRead space a s.env.nextByte.1 :: s.env.trace })
        (.unmappedAccess space a) := by
  rw [← Env.nextByte_trace s.env]
  unfold State.periphRead
  rw [State.isAbsent_eq]
  cases platformAnswers s space a <;> rfl

/-- A read of an I/O location, of a CPU register or of the platform (20_memory.md R93). -/
theorem State.ioRead_eq (s : State) (a : Nat) :
    s.ioRead a = readResult (ioByte s a) (s.setEnv (envAfterIoRead s a)) (.unmappedAccess .io a) := by
  unfold State.ioRead ioByte envAfterIoRead
  cases cpuIoAt s.cfg a with
  | some r => rfl
  | none => exact State.periphRead_eq s .io a

/-- A data-space read, in every region (20_memory.md R86). -/
theorem State.memRead_eq (s : State) (a : Nat) :
    s.memRead a = readResult (dataByte s a) (s.setEnv (envAfterRead s a)) (readFault s a) := by
  unfold State.memRead dataByte envAfterRead readFault
  cases dsMap s.cfg a with
  | reg n =>
    simp only [State.readReg]
    cases s.hasReg n <;> rfl
  | io i => exact State.ioRead_eq s i
  | sram =>
    simp only [State.sramRead]
    cases s.sramByte a <;> rfl
  | flash b =>
    simp only [State.progByte, ← Nat.not_le, ite_not]
    split <;> rfl
  | other => exact State.periphRead_eq s .data a
  | unmapped => rfl

/-- Settles O41: the equation of the data-space read, by whether there is a byte. -/
theorem dataSpaceRead : Obligations.DataSpaceRead := by
  intro a s
  rw [State.memRead_eq]
  cases dataByte s a <;> rfl

/-! ### Writes -/

theorem RegsKeptBut.of_regs {s t : State} (h : t.regs = s.regs) : RegsKeptBut [] s t := fun i _ => by
  rw [State.reg, State.reg, h]

theorem SramKept.of_dmem {s t : State} (h : t.dmem = s.dmem) : SramKept s t := fun a => by
  rw [State.sramByte, State.sramByte, h]

theorem FlashKept.of_pmem {s t : State} (h : t.pmem = s.pmem) : FlashKept s t := fun b => by
  rw [State.flashByte, State.flashByte, h]

theorem State.setReg_frame (s : State) (i : Reg) (v : Byte) : RegisterFrame [i] s (s.setReg i v) :=
  ⟨fun _ hj => State.setReg_reg_of_ne s v (List.ne_of_not_mem_cons hj), ⟨rfl, rfl, rfl, rfl, rfl⟩, ⟨rfl, rfl, rfl⟩, rfl,
    fun _ => rfl, fun _ => rfl, rfl⟩

@[simp] theorem State.sramByte_setSramByte_self (s : State) (a : Nat) (v : Byte) :
    (s.setSramByte a v).sramByte a = some v :=
  (Memory.readByte_writeByte .data s.dmem a a v).trans (if_pos rfl)

theorem State.sramByte_setSramByte_of_ne (s : State) {a b : Nat} (v : Byte) (h : b ≠ a) :
    (s.setSramByte a v).sramByte b = s.sramByte b :=
  (Memory.readByte_writeByte .data s.dmem a b v).trans (if_neg h)

theorem State.periphWrite_eq (s : State) (space : Space) (a : Nat) (v : Byte) :
    s.periphWrite space a v =
      if platformAnswers s space a then .ok (s.record (.periphWrite space a v)) else raise (.unmappedAccess space a) := by
  unfold State.periphWrite
  rw [State.isAbsent_eq]
  cases platformAnswers s space a <;> rfl

/-- A write of an I/O location, of a CPU register or of the platform (20_memory.md R93). -/
theorem State.ioWrite_eq (s : State) (a : Nat) (v : Byte) :
    s.ioWrite a v =
      if (cpuIoAt s.cfg a).isSome || platformAnswers s .io a then .ok (ioStored s a v)
      else raise (.unmappedAccess .io a) := by
  unfold State.ioWrite ioStored
  cases cpuIoAt s.cfg a with
  | some r => rfl
  | none => exact State.periphWrite_eq s .io a v

/-- The state a data-space store leaves where it goes through (20_memory.md R87). -/
def State.stored (s : State) (a : Nat) (v : Byte) : State :=
  match dsMap s.cfg a with
  | .reg n => s.setReg n v
  | .io i => ioStored s i v
  | .sram => s.setSramByte a v
  | .other => s.record (.periphWrite .data a v)
  | .flash _ | .unmapped => s

/-- A data-space write, in every region (20_memory.md R87). -/
theorem State.memWrite_eq (s : State) (a : Nat) (v : Byte) :
    s.memWrite a v = if writable s a then .ok (s.stored a v) else raise (writeFault s a) := by
  unfold State.memWrite State.stored writable writeFault
  cases dsMap s.cfg a with
  | reg n => rfl
  | io i => exact State.ioWrite_eq s i v
  | sram => rfl
  | flash b => rfl
  | other => exact State.periphWrite_eq s .data a v
  | unmapped => rfl

theorem ioStored_control (s : State) (a : Nat) (v : Byte) : ControlKept s (ioStored s a v) := by
  unfold ioStored
  split
  · exact State.cpuIoWrite_control s _ v
  · exact ⟨rfl, rfl, rfl, rfl, rfl⟩

theorem ioStored_dmem (s : State) (a : Nat) (v : Byte) : (ioStored s a v).dmem = s.dmem := by
  unfold ioStored
  split
  · exact State.cpuIoWrite_dmem s _ v
  · rfl

theorem ioStored_regs (s : State) (a : Nat) (v : Byte) : (ioStored s a v).regs = s.regs := by
  unfold ioStored
  split
  · exact State.cpuIoWrite_regs s _ v
  · rfl

/-- A store that goes through changes what its region says and nothing else (20_memory.md R87). -/
theorem State.storedAt_stored {s : State} {a : Nat} (h : writable s a = true) (v : Byte) :
    StoredAt a v s (s.stored a v) := by
  revert h
  unfold writable StoredAt State.stored
  cases dsMap s.cfg a with
  | reg n => exact fun _ => ⟨State.setReg_reg_self s n v, State.setReg_frame s n v, rfl, rfl⟩
  | io i =>
    obtain ⟨-, hpc, hpmem, -, -⟩ := ioStored_control s i v
    exact fun _ => ⟨rfl, .of_dmem (ioStored_dmem s i v), .of_pmem hpmem, .of_regs (ioStored_regs s i v), hpc⟩
  | sram =>
    exact fun _ => ⟨State.sramByte_setSramByte_self s a v, fun _ hb => State.sramByte_setSramByte_of_ne s v hb,
      fun _ _ => rfl, rfl, rfl, ⟨rfl, rfl, rfl, rfl, rfl⟩, ⟨rfl, rfl, rfl⟩, fun _ => rfl, rfl, rfl⟩
  | other => exact fun _ => rfl
  | flash b => exact fun h => absurd h Bool.false_ne_true
  | unmapped => exact fun h => absurd h Bool.false_ne_true

/-- Settles O42: the equation of the data-space write, and what the state it leaves is. -/
theorem dataSpaceWrite : Obligations.DataSpaceWrite := by
  intro a v s
  rw [State.memWrite_eq]
  split
  next answers => exact ⟨s.stored a v, rfl, State.storedAt_stored answers v⟩
  next stops => rfl

/-! ### The CPU registers in I/O space -/

/-- SREG has no reserved bit: each of its 256 bytes is read back (10_state.md R48, R58). -/
theorem Sreg.toByte_ofByte (v : Byte) : (Sreg.ofByte v).toByte = v := by
  revert v
  decide

/-- The low byte of a number kept to `n` bits. -/
theorem mod_two_pow_mod_256 (x n : Nat) : x % 2 ^ n % 256 = x % 256 % 2 ^ n := by
  refine Nat.eq_of_testBit_eq fun i => ?_
  rw [show (256 : Nat) = 2 ^ 8 from rfl]
  simp only [Nat.testBit_mod_two_pow, Bool.and_left_comm]

/-- The bits above the low byte of a number kept to `n` bits. -/
theorem mod_two_pow_div_256 (x n : Nat) : x % 2 ^ n / 256 = x / 256 % 2 ^ (n - 8) := by
  refine Nat.eq_of_testBit_eq fun i => ?_
  rw [show (256 : Nat) = 2 ^ 8 from rfl]
  simp only [Nat.testBit_mod_two_pow, Nat.testBit_div_two_pow, Nat.lt_sub_iff_add_lt]

/-- SPL as read is the low byte of SP (20_memory.md R93). -/
theorem State.cpuIoRead_spl_toNat (s : State) : (s.cpuIoRead .spl).toNat = s.sp.toNat % 256 :=
  BitVec.toNat_ofNat _ _

/-- SPH as read is what SP holds above its low byte, whatever its width (20_memory.md R93). -/
theorem State.cpuIoRead_sph_toNat {s : State} (h : s.sp.toNat < 2 ^ s.cfg.spBits) :
    (s.cpuIoRead .sph).toNat = s.sp.toNat / 256 := by
  have hsp := s.sp.isLt
  simp only [State.cpuIoRead, State.spHigh]
  split
  next narrow =>
    have hpow : 2 ^ s.cfg.spBits ≤ 2 ^ 8 := Nat.pow_le_pow_right (by decide) narrow
    exact (Nat.div_eq_of_lt (lt_of_lt_of_le h hpow)).symm
  next => exact Nat.mod_eq_of_lt (by omega)

theorem State.setSp_natCast_toNat {s : State} (h : s.cfg.spBits ≤ 16) (x : Nat) :
    (s.setSp (x : Int)).sp.toNat = x % 2 ^ s.cfg.spBits := by
  exact_mod_cast State.setSp_sp_toNat s x h

/-- SP after a write of SPH; where SP has no bits above bit 7 the write changes nothing (20_memory.md R93). -/
theorem State.setSpHigh_sp_toNat {s : State} (hwidth : s.cfg.spBits ≤ 16) (h : s.sp.toNat < 2 ^ s.cfg.spBits) (v : Byte) :
    (s.setSpHigh v).sp.toNat = (v.toNat * 256 + s.sp.toNat % 256) % 2 ^ s.cfg.spBits := by
  unfold State.setSpHigh
  split
  next narrow =>
    obtain ⟨k, hk⟩ : 2 ^ s.cfg.spBits ∣ 256 := pow_dvd_pow 2 narrow
    have hle : 2 ^ s.cfg.spBits ≤ 256 := Nat.le_of_dvd (by decide) ⟨k, hk⟩
    rw [Nat.mod_eq_of_lt (lt_of_lt_of_le h hle), hk, Nat.mul_left_comm, Nat.mul_add_mod, Nat.mod_eq_of_lt h]
  next => exact State.setSp_natCast_toNat hwidth _

theorem State.setSpLow_sp_toNat {s : State} (hwidth : s.cfg.spBits ≤ 16) (v : Byte) :
    (s.setSpLow v).sp.toNat = (s.sp.toNat / 256 * 256 + v.toNat) % 2 ^ s.cfg.spBits :=
  State.setSp_natCast_toNat hwidth _

theorem State.setSpHigh_cfg (s : State) (v : Byte) : (s.setSpHigh v).cfg = s.cfg := (Kept.cpuIoWrite s .sph v).cfg

/-- SPL written: read back to the width of SP, SPH as before (20_memory.md R93). -/
theorem State.setSpLow_read {s : State} (hwidth : s.cfg.spBits ≤ 16) (h : s.sp.toNat < 2 ^ s.cfg.spBits) (v : Byte) :
    ((s.setSpLow v).cpuIoRead .spl).toNat = v.toNat % 2 ^ s.cfg.spBits ∧
      (s.setSpLow v).cpuIoRead .sph = s.cpuIoRead .sph := by
  have hsp := State.setSpLow_sp_toNat hwidth v
  have hfits : (s.setSpLow v).sp.toNat < 2 ^ s.cfg.spBits := hsp ▸ Nat.mod_lt _ (Nat.two_pow_pos _)
  have hlow : (s.sp.toNat / 256 * 256 + v.toNat) % 256 = v.toNat := by omega
  have hhigh : (s.sp.toNat / 256 * 256 + v.toNat) / 256 = s.sp.toNat / 256 := by omega
  constructor
  · rw [State.cpuIoRead_spl_toNat, hsp, mod_two_pow_mod_256, hlow]
  · refine BitVec.eq_of_toNat_eq ?_
    rw [State.cpuIoRead_sph_toNat hfits, State.cpuIoRead_sph_toNat h, hsp, mod_two_pow_div_256, hhigh,
      ← mod_two_pow_div_256, Nat.mod_eq_of_lt h]

/-- SPH written: read back to the width of SP, SPL as before (20_memory.md R93). -/
theorem State.setSpHigh_read {s : State} (hwidth : s.cfg.spBits ≤ 16) (h : s.sp.toNat < 2 ^ s.cfg.spBits) (v : Byte) :
    ((s.setSpHigh v).cpuIoRead .sph).toNat = v.toNat % 2 ^ (s.cfg.spBits - 8) ∧
      (s.setSpHigh v).cpuIoRead .spl = s.cpuIoRead .spl := by
  have hsp := State.setSpHigh_sp_toNat hwidth h v
  have hfits : (s.setSpHigh v).sp.toNat < 2 ^ (s.setSpHigh v).cfg.spBits := by
    rw [State.setSpHigh_cfg, hsp]
    exact Nat.mod_lt _ (Nat.two_pow_pos _)
  have hlow : (v.toNat * 256 + s.sp.toNat % 256) % 256 = s.sp.toNat % 256 := by omega
  have hhigh : (v.toNat * 256 + s.sp.toNat % 256) / 256 = v.toNat := by omega
  constructor
  · rw [State.cpuIoRead_sph_toNat hfits, hsp, mod_two_pow_div_256, hhigh]
  · refine BitVec.eq_of_toNat_eq ?_
    rw [State.cpuIoRead_spl_toNat, State.cpuIoRead_spl_toNat, hsp, mod_two_pow_mod_256, hlow, ← mod_two_pow_mod_256,
      Nat.mod_eq_of_lt h]

/-- The value of a CPU register after `v` is written to it: the two of SP keep the bits SP has (20_memory.md R93). -/
def cpuIoKept (cfg : Config) (r : CpuIo) (v : Byte) : Nat :=
  match r with
  | .spl => v.toNat % 2 ^ cfg.spBits
  | .sph => v.toNat % 2 ^ (cfg.spBits - 8)
  | _ => v.toNat

theorem State.cpuIoRead_cpuIoWrite_self {s : State} (hwidth : s.cfg.spBits ≤ 16) (h : s.sp.toNat < 2 ^ s.cfg.spBits)
    (r : CpuIo) (v : Byte) : ((s.cpuIoWrite r v).cpuIoRead r).toNat = cpuIoKept s.cfg r v := by
  cases r with
  | sreg => exact congrArg BitVec.toNat (Sreg.toByte_ofByte v)
  | spl => exact (State.setSpLow_read hwidth h v).1
  | sph => exact (State.setSpHigh_read hwidth h v).1
  | rampx | rampy | rampz | rampd | eind => rfl

/-- A write of SPH is a write of SP or nothing. -/
theorem State.setSpHigh_cases (s : State) (v : Byte) : s.setSpHigh v = s ∨ ∃ x, s.setSpHigh v = s.setSp x := by
  unfold State.setSpHigh
  split
  next => exact .inl rfl
  next => exact .inr ⟨_, rfl⟩

/-- No write of SP is seen in a CPU register that is no part of it. -/
theorem State.cpuIoRead_setSp {r : CpuIo} (hl : r ≠ .spl) (hh : r ≠ .sph) (s : State) (x : Int) :
    (s.setSp x).cpuIoRead r = s.cpuIoRead r := by
  cases r with
  | spl => exact absurd rfl hl
  | sph => exact absurd rfl hh
  | _ => rfl

/-- A write of one CPU register is not seen in another; of SPL and SPH this is so because SP is inside its width. -/
theorem State.cpuIoRead_cpuIoWrite_of_ne {s : State} (hwidth : s.cfg.spBits ≤ 16) (h : s.sp.toNat < 2 ^ s.cfg.spBits)
    {r r' : CpuIo} (hne : r' ≠ r) (v : Byte) : (s.cpuIoWrite r v).cpuIoRead r' = s.cpuIoRead r' := by
  cases r with
  | spl =>
    by_cases hsph : r' = .sph
    · exact hsph ▸ (State.setSpLow_read hwidth h v).2
    · exact State.cpuIoRead_setSp hne hsph s _
  | sph =>
    by_cases hspl : r' = .spl
    · exact hspl ▸ (State.setSpHigh_read hwidth h v).2
    · obtain hsame | ⟨x, hset⟩ := s.setSpHigh_cases v
      · exact congrArg (State.cpuIoRead · r') hsame
      · exact (congrArg (State.cpuIoRead · r') hset).trans (State.cpuIoRead_setSp hspl hne s x)
  | sreg | rampx | rampy | rampz | rampd | eind => cases r' <;> first | rfl | exact absurd rfl hne

theorem State.cpuIoWrite_env (s : State) (r : CpuIo) (v : Byte) : (s.cpuIoWrite r v).env = s.env := by
  cases r with
  | sph =>
    obtain hsame | ⟨x, hset⟩ := s.setSpHigh_cases v
    · exact congrArg (·.env) hsame
    · exact congrArg (·.env) hset
  | _ => rfl

/-- Settles O43: the register at the address is the one read and written, and the invariant bounds SP and its width. -/
theorem ioRegisters : Obligations.IoRegisters := by
  rintro a r v s ⟨hcfg, -, hsp, -⟩ hat
  have hwidth := (accepted_widths hcfg).2
  obtain ⟨hkcfg, hpc, hpmem, hmode, hlatch⟩ := s.cpuIoWrite_control r v
  refine ⟨by rw [State.ioRead, hat], s.cpuIoWrite r v, by rw [State.ioWrite, hat], ?_,
    fun _ hne => State.cpuIoRead_cpuIoWrite_of_ne hwidth hsp hne v, .of_regs (s.cpuIoWrite_regs r v),
    ⟨hkcfg, hmode, hlatch⟩, .of_dmem (s.cpuIoWrite_dmem r v), .of_pmem hpmem, hpc, s.cpuIoWrite_env r v⟩
  exact State.cpuIoRead_cpuIoWrite_self hwidth hsp r v

end Sys2Proof.Machine
end

section
/-! The operand fields: the number each accessor reads, and each format of the encoder read back field by field
(30_encoding.md R120 to R126). -/

namespace Sys2Proof

/-! ### The fields of a word -/

theorem field_lt (w : Word) (hi lo : Nat) : field w hi lo < 2 ^ (hi + 1 - lo) := Nat.mod_lt _ (by positivity)

/-- The bits up to `hi` are the field from `hi` to `lo`, above the bits below `lo`: a word is cut into its fields by one
such step per field. -/
theorem mod_eq_field_add (w : Word) (hi lo : Nat) (h : lo ≤ hi) :
    w.toNat % 2 ^ (hi + 1) = field w hi lo * 2 ^ lo + w.toNat % 2 ^ lo := by
  have hpow : 2 ^ (hi + 1) = 2 ^ lo * 2 ^ (hi + 1 - lo) := by rw [← Nat.pow_add]; congr 1; omega
  rw [hpow, Nat.mod_mul, field]; ring

/-- The upper part of a field. -/
theorem field_upper (w : Word) (hi mid lo : Nat) (h : lo ≤ mid) (h' : mid ≤ hi) :
    field w hi mid = field w hi lo / 2 ^ (mid - lo) := by
  have hpow : 2 ^ mid = 2 ^ lo * 2 ^ (mid - lo) := by rw [← Nat.pow_add]; congr 1; omega
  have hwidth : 2 ^ (hi + 1 - lo) = 2 ^ (mid - lo) * 2 ^ (hi + 1 - mid) := by rw [← Nat.pow_add]; congr 1; omega
  rw [field, field, hpow, hwidth, Nat.mod_mul_right_div_self, Nat.div_div_eq_div_mul]

/-- The lower part of a field. -/
theorem field_lower (w : Word) (hi mid lo : Nat) (h : mid ≤ hi) : field w mid lo = field w hi lo % 2 ^ (mid + 1 - lo) :=
  (Nat.mod_mod_of_dvd _ (Nat.pow_dvd_pow 2 (by omega))).symm

theorem wordOf_eq_iff {w : Word} {n : Nat} (h : n < 65536) : [wordOf n] = [w] ↔ w.toNat % 2 ^ (15 + 1) = n := by
  have := w.isLt
  simp only [wordOf, List.cons.injEq, and_true, ← BitVec.toNat_inj, BitVec.toNat_ofNat]
  omega

/-! ### The operand accessors as numbers -/

section Accessors

variable (w : Word)

theorem regD_val : (regD w).val = field w 8 4 := Nat.mod_eq_of_lt (field_lt w 8 4)

theorem regR_val : (regR w).val = field w 9 9 * 16 + field w 3 0 := by
  have h1 := field_lt w 9 9
  have h0 := field_lt w 3 0
  exact Nat.mod_eq_of_lt (by omega)

theorem upperD_val : (upperD w).val = 16 + field w 7 4 := by
  have h := field_lt w 7 4
  exact Nat.mod_eq_of_lt (by omega)

theorem upperR_val : (upperR w).val = 16 + field w 3 0 := by
  have h := field_lt w 3 0
  exact Nat.mod_eq_of_lt (by omega)

theorem mulD_val : (mulD w).val = 16 + field w 6 4 := by
  have h := field_lt w 6 4
  exact Nat.mod_eq_of_lt (by omega)

theorem mulR_val : (mulR w).val = 16 + field w 2 0 := by
  have h := field_lt w 2 0
  exact Nat.mod_eq_of_lt (by omega)

theorem pairD_val : (pairD w).val = 2 * field w 7 4 := by
  have h := field_lt w 7 4
  exact Nat.mod_eq_of_lt (by omega)

theorem pairR_val : (pairR w).val = 2 * field w 3 0 := by
  have h := field_lt w 3 0
  exact Nat.mod_eq_of_lt (by omega)

theorem wordPairD_val : (wordPairD w).val = 24 + 2 * field w 5 4 := by
  have h := field_lt w 5 4
  exact Nat.mod_eq_of_lt (by omega)

theorem bitLow_val : (bitLow w).val = field w 2 0 := Nat.mod_eq_of_lt (field_lt w 2 0)

theorem bitMid_val : (bitMid w).val = field w 6 4 := Nat.mod_eq_of_lt (field_lt w 6 4)

theorem constK6_toNat : (constK6 w).toNat = field w 7 6 * 16 + field w 3 0 := by
  have h1 := field_lt w 7 6
  have h0 := field_lt w 3 0
  exact Nat.mod_eq_of_lt (by omega)

theorem constK8_toNat : (constK8 w).toNat = field w 11 8 * 16 + field w 3 0 := by
  have h1 := field_lt w 11 8
  have h0 := field_lt w 3 0
  exact Nat.mod_eq_of_lt (by omega)

theorem roundK_toNat : (roundK w).toNat = field w 7 4 := Nat.mod_eq_of_lt (field_lt w 7 4)

theorem ioA6_toNat : (ioA6 w).toNat = field w 10 9 * 16 + field w 3 0 := by
  have h1 := field_lt w 10 9
  have h0 := field_lt w 3 0
  exact Nat.mod_eq_of_lt (by omega)

theorem ioA5_toNat : (ioA5 w).toNat = field w 7 3 := Nat.mod_eq_of_lt (field_lt w 7 3)

theorem offset7_toNat : (offset7 w).toNat = field w 9 3 := Nat.mod_eq_of_lt (field_lt w 9 3)

theorem offset12_toNat : (offset12 w).toNat = field w 11 0 := Nat.mod_eq_of_lt (field_lt w 11 0)

theorem target22_toNat (w1 : Word) :
    (target22 w w1).toNat = (field w 8 4 * 2 + field w 0 0) * 65536 + w1.toNat := by
  have h1 := field_lt w 8 4
  have h0 := field_lt w 0 0
  have hw := w1.isLt
  rw [target22, BitVec.toNat_ofNat, Nat.mod_eq_of_lt (by omega)]

theorem disp6_toNat : (disp6 w).toNat = field w 13 13 * 32 + field w 11 10 * 8 + field w 2 0 := by
  have h2 := field_lt w 13 13
  have h1 := field_lt w 11 10
  have h0 := field_lt w 2 0
  exact Nat.mod_eq_of_lt (by omega)

theorem addr7_toNat : (addr7 w).toNat = field w 10 8 * 16 + field w 3 0 := by
  have h1 := field_lt w 10 8
  have h0 := field_lt w 3 0
  exact Nat.mod_eq_of_lt (by omega)

end Accessors

theorem Reg.isUpper_iff {d : Reg} : d.isUpper = true ↔ 16 ≤ d.val := decide_eq_true_iff

theorem Reg.isMulUpper_iff {d : Reg} : d.isMulUpper = true ↔ 16 ≤ d.val ∧ d.val ≤ 23 := by simp [Reg.isMulUpper]

theorem Reg.isWordPair_iff {d : Reg} : d.isWordPair = true ↔ 24 ≤ d.val ∧ d.val % 2 = 0 := by simp [Reg.isWordPair]

theorem Reg.isPair_iff {d : Reg} : d.isPair = true ↔ d.val % 2 = 0 := decide_eq_true_iff

@[simp] theorem upperD_isUpper (w : Word) : (upperD w).isUpper = true := by
  rw [Reg.isUpper_iff, upperD_val]; omega

@[simp] theorem upperR_isUpper (w : Word) : (upperR w).isUpper = true := by
  rw [Reg.isUpper_iff, upperR_val]; omega

@[simp] theorem mulD_isMulUpper (w : Word) : (mulD w).isMulUpper = true := by
  have h := field_lt w 6 4
  rw [Reg.isMulUpper_iff, mulD_val]; omega

@[simp] theorem mulR_isMulUpper (w : Word) : (mulR w).isMulUpper = true := by
  have h := field_lt w 2 0
  rw [Reg.isMulUpper_iff, mulR_val]; omega

@[simp] theorem pairD_isPair (w : Word) : (pairD w).isPair = true := by
  rw [Reg.isPair_iff, pairD_val]; omega

@[simp] theorem pairR_isPair (w : Word) : (pairR w).isPair = true := by
  rw [Reg.isPair_iff, pairR_val]; omega

@[simp] theorem wordPairD_isWordPair (w : Word) : (wordPairD w).isWordPair = true := by
  rw [Reg.isWordPair_iff, wordPairD_val]; omega

end Sys2Proof
end

section
/-! Each format of the encoder, read back: which word it gives, by the fixed fields the decoder tests and by the operand
fields. Every proof cuts the word into the fields of its format (30_encoding.md R122 to R126). -/

namespace Sys2Proof

/-- The top bit of a displacement is bit 1 of the group (30_encoding.md R126). -/
theorem field_13 (w : Word) : field w 13 13 = field w 15 12 / 2 % 2 :=
  (field_lower w 15 13 13 (by decide)).trans (congrArg (· % 2) (field_upper w 15 13 12 (by decide) (by decide)))

section OneWord

variable {op : Nat} {w : Word}

theorem encTwoReg_eq_iff {d r : Reg} (hop : op = op / 4096 % 16 * 4096 + op / 1024 % 4 * 1024) :
    encTwoReg op d r = [w] ↔
      field w 15 12 = op / 4096 % 16 ∧ field w 11 10 = op / 1024 % 4 ∧ regD w = d ∧ regR w = r := by
  have hd := d.isLt
  have hr := r.isLt
  have h15 := field_lt w 15 12
  have h11 := field_lt w 11 10
  have h9 := field_lt w 9 9
  have h8 := field_lt w 8 4
  have h3 := field_lt w 3 0
  rw [encTwoReg, wordOf_eq_iff (by omega), mod_eq_field_add w 15 12 (by decide), mod_eq_field_add w 11 10 (by decide),
    mod_eq_field_add w 9 9 (by decide), mod_eq_field_add w 8 4 (by decide), mod_eq_field_add w 3 0 (by decide),
    Fin.ext_iff, Fin.ext_iff, regD_val, regR_val]
  omega

theorem encImm_eq_iff {d : Reg} {K : Byte} (hop : op = op / 4096 % 16 * 4096) (hd : d.isUpper = true) :
    encImm op d K = [w] ↔ field w 15 12 = op / 4096 % 16 ∧ upperD w = d ∧ constK8 w = K := by
  have hd := Reg.isUpper_iff.1 hd
  have hd' := d.isLt
  have hK := K.isLt
  have h15 := field_lt w 15 12
  have h11 := field_lt w 11 8
  have h7 := field_lt w 7 4
  have h3 := field_lt w 3 0
  rw [encImm, wordOf_eq_iff (by omega), mod_eq_field_add w 15 12 (by decide), mod_eq_field_add w 11 8 (by decide),
    mod_eq_field_add w 7 4 (by decide), mod_eq_field_add w 3 0 (by decide), Fin.ext_iff, ← BitVec.toNat_inj, upperD_val,
    constK8_toNat]
  omega

theorem encOneReg_eq_iff {d : Reg} (hop : op = op / 4096 % 16 * 4096 + op / 512 % 8 * 512 + op % 16) :
    encOneReg op d = [w] ↔
      field w 15 12 = op / 4096 % 16 ∧ field w 11 9 = op / 512 % 8 ∧ field w 3 0 = op % 16 ∧ regD w = d := by
  have hd := d.isLt
  have h15 := field_lt w 15 12
  have h11 := field_lt w 11 9
  have h8 := field_lt w 8 4
  have h3 := field_lt w 3 0
  rw [encOneReg, wordOf_eq_iff (by omega), mod_eq_field_add w 15 12 (by decide), mod_eq_field_add w 11 9 (by decide),
    mod_eq_field_add w 8 4 (by decide), mod_eq_field_add w 3 0 (by decide), Fin.ext_iff, regD_val]
  omega

theorem encDisp_eq_iff {d : Reg} {q : BitVec 6} (hop : op = 0x8000 + op / 512 % 2 * 512 + op / 8 % 2 * 8) :
    encDisp op d q = [w] ↔
      field w 15 12 = 8 + q.toNat / 32 * 2 ∧ field w 9 9 = op / 512 % 2 ∧ field w 3 3 = op / 8 % 2 ∧ regD w = d ∧
        disp6 w = q := by
  have hd := d.isLt
  have hq := q.isLt
  have h15 := field_lt w 15 12
  have h11 := field_lt w 11 10
  have h9 := field_lt w 9 9
  have h8 := field_lt w 8 4
  have h3 := field_lt w 3 3
  have h2 := field_lt w 2 0
  rw [encDisp, wordOf_eq_iff (by omega), mod_eq_field_add w 15 12 (by decide), mod_eq_field_add w 11 10 (by decide),
    mod_eq_field_add w 9 9 (by decide), mod_eq_field_add w 8 4 (by decide), mod_eq_field_add w 3 3 (by decide),
    mod_eq_field_add w 2 0 (by decide), Fin.ext_iff, ← BitVec.toNat_inj, regD_val, disp6_toNat, field_13]
  constructor
  · intro h
    have hgroup : field w 15 12 = 8 + q.toNat / 32 * 2 := by omega
    omega
  · rintro ⟨hgroup, hy, hz, hreg, hdisp⟩
    omega

theorem encMul3_eq_iff {d r : Reg} (hop : op = 0x0300 + op / 128 % 2 * 128 + op / 8 % 2 * 8)
    (hd : d.isMulUpper = true) (hr : r.isMulUpper = true) :
    encMul3 op d r = [w] ↔
      field w 15 12 = 0 ∧ field w 11 8 = 3 ∧ field w 7 7 = op / 128 % 2 ∧ field w 3 3 = op / 8 % 2 ∧
        mulD w = d ∧ mulR w = r := by
  have hd := Reg.isMulUpper_iff.1 hd
  have hr := Reg.isMulUpper_iff.1 hr
  have h15 := field_lt w 15 12
  have h11 := field_lt w 11 8
  have h7 := field_lt w 7 7
  have h6 := field_lt w 6 4
  have h3 := field_lt w 3 3
  have h2 := field_lt w 2 0
  rw [encMul3, wordOf_eq_iff (by omega), mod_eq_field_add w 15 12 (by decide), mod_eq_field_add w 11 8 (by decide),
    mod_eq_field_add w 7 7 (by decide), mod_eq_field_add w 6 4 (by decide), mod_eq_field_add w 3 3 (by decide),
    mod_eq_field_add w 2 0 (by decide), Fin.ext_iff, Fin.ext_iff, mulD_val, mulR_val]
  omega

theorem encWordImm_eq_iff {d : Reg} {K : BitVec 6}
    (hop : op = op / 4096 % 16 * 4096 + op / 256 % 16 * 256) (hd : d.isWordPair = true) :
    encWordImm op d K = [w] ↔
      field w 15 12 = op / 4096 % 16 ∧ field w 11 8 = op / 256 % 16 ∧ wordPairD w = d ∧ constK6 w = K := by
  have hd := Reg.isWordPair_iff.1 hd
  have hd' := d.isLt
  have hK := K.isLt
  have h15 := field_lt w 15 12
  have h11 := field_lt w 11 8
  have h7 := field_lt w 7 6
  have h5 := field_lt w 5 4
  have h3 := field_lt w 3 0
  rw [encWordImm, wordOf_eq_iff (by omega), mod_eq_field_add w 15 12 (by decide), mod_eq_field_add w 11 8 (by decide),
    mod_eq_field_add w 7 6 (by decide), mod_eq_field_add w 5 4 (by decide), mod_eq_field_add w 3 0 (by decide),
    Fin.ext_iff, ← BitVec.toNat_inj, wordPairD_val, constK6_toNat]
  omega

theorem encIo_eq_iff {d : Reg} {A : BitVec 6} (hop : op = op / 4096 % 16 * 4096 + op / 2048 % 2 * 2048) :
    encIo op d A = [w] ↔
      field w 15 12 = op / 4096 % 16 ∧ field w 11 11 = op / 2048 % 2 ∧ regD w = d ∧ ioA6 w = A := by
  have hd := d.isLt
  have hA := A.isLt
  have h15 := field_lt w 15 12
  have h11 := field_lt w 11 11
  have h10 := field_lt w 10 9
  have h8 := field_lt w 8 4
  have h3 := field_lt w 3 0
  rw [encIo, wordOf_eq_iff (by omega), mod_eq_field_add w 15 12 (by decide), mod_eq_field_add w 11 11 (by decide),
    mod_eq_field_add w 10 9 (by decide), mod_eq_field_add w 8 4 (by decide), mod_eq_field_add w 3 0 (by decide),
    Fin.ext_iff, ← BitVec.toNat_inj, regD_val, ioA6_toNat]
  omega

theorem encIoBit_eq_iff {A : BitVec 5} {b : Bit} (hop : op = op / 4096 % 16 * 4096 + op / 256 % 16 * 256) :
    encIoBit op A b = [w] ↔
      field w 15 12 = op / 4096 % 16 ∧ field w 11 8 = op / 256 % 16 ∧ ioA5 w = A ∧ bitLow w = b := by
  have hA := A.isLt
  have hb := b.isLt
  have h15 := field_lt w 15 12
  have h11 := field_lt w 11 8
  have h7 := field_lt w 7 3
  have h2 := field_lt w 2 0
  rw [encIoBit, wordOf_eq_iff (by omega), mod_eq_field_add w 15 12 (by decide), mod_eq_field_add w 11 8 (by decide),
    mod_eq_field_add w 7 3 (by decide), mod_eq_field_add w 2 0 (by decide), Fin.ext_iff, ← BitVec.toNat_inj,
    ioA5_toNat, bitLow_val]
  omega

theorem encRegBit_eq_iff {d : Reg} {b : Bit} (hop : op = op / 4096 % 16 * 4096 + 0x0800 + op / 512 % 4 * 512) :
    encRegBit op d b = [w] ↔
      field w 15 12 = op / 4096 % 16 ∧ field w 11 11 = 1 ∧ field w 10 9 = op / 512 % 4 ∧ field w 3 3 = 0 ∧
        regD w = d ∧ bitLow w = b := by
  have hd := d.isLt
  have hb := b.isLt
  have h15 := field_lt w 15 12
  have h11 := field_lt w 11 11
  have h10 := field_lt w 10 9
  have h8 := field_lt w 8 4
  have h3 := field_lt w 3 3
  have h2 := field_lt w 2 0
  rw [encRegBit, wordOf_eq_iff (by omega), mod_eq_field_add w 15 12 (by decide), mod_eq_field_add w 11 11 (by decide),
    mod_eq_field_add w 10 9 (by decide), mod_eq_field_add w 8 4 (by decide), mod_eq_field_add w 3 3 (by decide),
    mod_eq_field_add w 2 0 (by decide), Fin.ext_iff, Fin.ext_iff, regD_val, bitLow_val]
  omega

theorem encBranch_eq_iff {s : Bit} {k : BitVec 7} (hop : op = op / 4096 % 16 * 4096 + op / 1024 % 4 * 1024) :
    encBranch op s k = [w] ↔
      field w 15 12 = op / 4096 % 16 ∧ field w 11 10 = op / 1024 % 4 ∧ bitLow w = s ∧ offset7 w = k := by
  have hs := s.isLt
  have hk := k.isLt
  have h15 := field_lt w 15 12
  have h11 := field_lt w 11 10
  have h9 := field_lt w 9 3
  have h2 := field_lt w 2 0
  rw [encBranch, wordOf_eq_iff (by omega), mod_eq_field_add w 15 12 (by decide), mod_eq_field_add w 11 10 (by decide),
    mod_eq_field_add w 9 3 (by decide), mod_eq_field_add w 2 0 (by decide), Fin.ext_iff, ← BitVec.toNat_inj,
    bitLow_val, offset7_toNat]
  omega

theorem encFlag_eq_iff {s : Bit}
    (hop : op = op / 4096 % 16 * 4096 + op / 512 % 8 * 512 + op / 128 % 4 * 128 + op % 16) :
    encFlag op s = [w] ↔
      field w 15 12 = op / 4096 % 16 ∧ field w 11 9 = op / 512 % 8 ∧ field w 8 7 = op / 128 % 4 ∧
        field w 3 0 = op % 16 ∧ bitMid w = s := by
  have hs := s.isLt
  have h15 := field_lt w 15 12
  have h11 := field_lt w 11 9
  have h8 := field_lt w 8 7
  have h6 := field_lt w 6 4
  have h3 := field_lt w 3 0
  rw [encFlag, wordOf_eq_iff (by omega), mod_eq_field_add w 15 12 (by decide), mod_eq_field_add w 11 9 (by decide),
    mod_eq_field_add w 8 7 (by decide), mod_eq_field_add w 6 4 (by decide), mod_eq_field_add w 3 0 (by decide),
    Fin.ext_iff, bitMid_val]
  omega

theorem encRc_eq_iff {d : Reg} {k : BitVec 7} (hop : op = op / 4096 % 16 * 4096 + op / 2048 % 2 * 2048)
    (hd : d.isUpper = true) :
    encRc op d k = [w] ↔
      field w 15 12 = op / 4096 % 16 ∧ field w 11 11 = op / 2048 % 2 ∧ upperD w = d ∧ addr7 w = k := by
  have hd := Reg.isUpper_iff.1 hd
  have hd' := d.isLt
  have hk := k.isLt
  have h15 := field_lt w 15 12
  have h11 := field_lt w 11 11
  have h10 := field_lt w 10 8
  have h7 := field_lt w 7 4
  have h3 := field_lt w 3 0
  rw [encRc, wordOf_eq_iff (by omega), mod_eq_field_add w 15 12 (by decide), mod_eq_field_add w 11 11 (by decide),
    mod_eq_field_add w 10 8 (by decide), mod_eq_field_add w 7 4 (by decide), mod_eq_field_add w 3 0 (by decide),
    Fin.ext_iff, ← BitVec.toNat_inj, upperD_val, addr7_toNat]
  omega

/-- The word of MULS (30_encoding.md R123). -/
theorem mulsWord_eq_iff {d r : Reg} (hd : d.isUpper = true) (hr : r.isUpper = true) :
    [wordOf (0x0200 + (d.val % 16) * 16 + r.val % 16)] = [w] ↔
      field w 15 12 = 0 ∧ field w 11 8 = 2 ∧ upperD w = d ∧ upperR w = r := by
  have hd := Reg.isUpper_iff.1 hd
  have hd' := d.isLt
  have hr := Reg.isUpper_iff.1 hr
  have hr' := r.isLt
  have h15 := field_lt w 15 12
  have h11 := field_lt w 11 8
  have h7 := field_lt w 7 4
  have h3 := field_lt w 3 0
  rw [wordOf_eq_iff (by omega), mod_eq_field_add w 15 12 (by decide), mod_eq_field_add w 11 8 (by decide),
    mod_eq_field_add w 7 4 (by decide), mod_eq_field_add w 3 0 (by decide), Fin.ext_iff, Fin.ext_iff, upperD_val,
    upperR_val]
  omega

/-- The word of MOVW (30_encoding.md R125). -/
theorem movwWord_eq_iff {d r : Reg} (hd : d.isPair = true) (hr : r.isPair = true) :
    [wordOf (0x0100 + (d.val / 2) * 16 + r.val / 2)] = [w] ↔
      field w 15 12 = 0 ∧ field w 11 8 = 1 ∧ pairD w = d ∧ pairR w = r := by
  have hd := Reg.isPair_iff.1 hd
  have hd' := d.isLt
  have hr := Reg.isPair_iff.1 hr
  have hr' := r.isLt
  have h15 := field_lt w 15 12
  have h11 := field_lt w 11 8
  have h7 := field_lt w 7 4
  have h3 := field_lt w 3 0
  rw [wordOf_eq_iff (by omega), mod_eq_field_add w 15 12 (by decide), mod_eq_field_add w 11 8 (by decide),
    mod_eq_field_add w 7 4 (by decide), mod_eq_field_add w 3 0 (by decide), Fin.ext_iff, Fin.ext_iff, pairD_val,
    pairR_val]
  omega

/-- The word of DES (30_encoding.md R126). -/
theorem desWord_eq_iff {K : BitVec 4} :
    [wordOf (0x940B + K.toNat * 16)] = [w] ↔
      field w 15 12 = 9 ∧ field w 11 9 = 2 ∧ field w 8 8 = 0 ∧ field w 3 0 = 11 ∧ roundK w = K := by
  have hK := K.isLt
  have h15 := field_lt w 15 12
  have h11 := field_lt w 11 9
  have h8 := field_lt w 8 8
  have h7 := field_lt w 7 4
  have h3 := field_lt w 3 0
  rw [wordOf_eq_iff (by omega), mod_eq_field_add w 15 12 (by decide), mod_eq_field_add w 11 9 (by decide),
    mod_eq_field_add w 8 8 (by decide), mod_eq_field_add w 7 4 (by decide), mod_eq_field_add w 3 0 (by decide),
    ← BitVec.toNat_inj, roundK_toNat]
  omega

/-- The words of RJMP and RCALL (30_encoding.md R126). -/
theorem relativeWord_eq_iff {k : BitVec 12} (hop : op = op / 4096 % 16 * 4096) :
    [wordOf (op + k.toNat)] = [w] ↔
      field w 15 12 = op / 4096 % 16 ∧ offset12 w = k := by
  have hk := k.isLt
  have h15 := field_lt w 15 12
  have h11 := field_lt w 11 0
  rw [wordOf_eq_iff (by omega), mod_eq_field_add w 15 12 (by decide), mod_eq_field_add w 11 0 (by decide),
    ← BitVec.toNat_inj, offset12_toNat]
  omega

end OneWord

/-- The two words of JMP and CALL (30_encoding.md R121). -/
theorem encJump_eq_iff {op : Nat} {k : PcWord} {w w1 : Word}
    (hop : op = op / 4096 % 16 * 4096 + op / 512 % 8 * 512 + op / 2 % 8 * 2) :
    encJump op k = [w, w1] ↔
      field w 15 12 = op / 4096 % 16 ∧ field w 11 9 = op / 512 % 8 ∧ field w 3 1 = op / 2 % 8 ∧ target22 w w1 = k := by
  have hk := k.isLt
  have hw1 := w1.isLt
  have h15 := field_lt w 15 12
  have h11 := field_lt w 11 9
  have h8 := field_lt w 8 4
  have h3 := field_lt w 3 1
  have h0 := field_lt w 0 0
  have hcons : encJump op k = [w, w1] ↔
      [wordOf (op + k.toNat / 131072 * 16 + k.toNat / 65536 % 2)] = [w] ∧ [wordOf (k.toNat % 65536)] = [w1] := by
    simp [encJump]
  rw [hcons, wordOf_eq_iff (by omega), wordOf_eq_iff (by omega), mod_eq_field_add w 15 12 (by decide),
    mod_eq_field_add w 11 9 (by decide), mod_eq_field_add w 8 4 (by decide), mod_eq_field_add w 3 1 (by decide),
    mod_eq_field_add w 0 0 (by decide), ← BitVec.toNat_inj, target22_toNat]
  omega

/-- The two words of LDS and STS: the first is of the one-register format (30_encoding.md R121). -/
theorem encDirect_eq_iff {op : Nat} {d : Reg} {k w w1 : Word}
    (hop : op = op / 4096 % 16 * 4096 + op / 512 % 8 * 512 + op % 16) :
    [wordOf (op + d.val * 16), k] = [w, w1] ↔
      field w 15 12 = op / 4096 % 16 ∧ field w 11 9 = op / 512 % 8 ∧ field w 3 0 = op % 16 ∧ regD w = d ∧ w1 = k := by
  have hcons : [wordOf (op + d.val * 16), k] = [w, w1] ↔ encOneReg op d = [w] ∧ w1 = k := by
    simp [encOneReg, eq_comm]
  rw [hcons, encOneReg_eq_iff hop]
  tauto

/-- A displacement of zero leaves the words of LD and ST (30_encoding.md R128 step 3). -/
theorem encDisp_zero (op : Nat) (d : Reg) : encDisp op d 0#6 = encOneReg op d := by
  simp [encDisp, encOneReg]

end Sys2Proof
end

section
/-! The decoder and the encoder are inverse to each other: a word decodes to an instruction exactly where it is the word
of that instruction (30_encoding.md R120 to R132). -/

namespace Sys2Proof

variable {c : Cpu} {w w1 : Word} {i : Instr}

/-! ### Rows that one field of the decoder's `match` spreads over several numbers -/

theorem decodeGroup0_cpc (h : field w 11 10 = 1) : decodeGroup0 w = .ok (.cpc (regD w) (regR w)) := by
  have hk := field_upper w 11 10 8 (by decide) (by decide)
  have hlt := field_lt w 11 8
  obtain hn | hn | hn | hn : field w 11 8 = 4 ∨ field w 11 8 = 5 ∨ field w 11 8 = 6 ∨ field w 11 8 = 7 := by omega
  all_goals simp only [decodeGroup0, hn]

theorem decodeGroup0_sbc (h : field w 11 10 = 2) : decodeGroup0 w = .ok (.sbc (regD w) (regR w)) := by
  have hk := field_upper w 11 10 8 (by decide) (by decide)
  have hlt := field_lt w 11 8
  obtain hn | hn | hn | hn : field w 11 8 = 8 ∨ field w 11 8 = 9 ∨ field w 11 8 = 10 ∨ field w 11 8 = 11 := by omega
  all_goals simp only [decodeGroup0, hn]

theorem decodeGroup0_add (h : field w 11 10 = 3) : decodeGroup0 w = .ok (.add (regD w) (regR w)) := by
  have hk := field_upper w 11 10 8 (by decide) (by decide)
  have hlt := field_lt w 11 8
  obtain hn | hn | hn | hn : field w 11 8 = 12 ∨ field w 11 8 = 13 ∨ field w 11 8 = 14 ∨ field w 11 8 = 15 := by omega
  all_goals simp only [decodeGroup0, hn]

theorem decodeGroup9_loads (h : field w 11 9 = 0) : decodeGroup9 w w1 = decodeLoads w w1 := by
  have hk := field_upper w 11 9 8 (by decide) (by decide)
  obtain hn | hn : field w 11 8 = 0 ∨ field w 11 8 = 1 := by omega
  all_goals simp only [decodeGroup9, hn]

theorem decodeGroup9_stores (h : field w 11 9 = 1) : decodeGroup9 w w1 = decodeStores w w1 := by
  have hk := field_upper w 11 9 8 (by decide) (by decide)
  obtain hn | hn : field w 11 8 = 2 ∨ field w 11 8 = 3 := by omega
  all_goals simp only [decodeGroup9, hn]

theorem decodeGroup9_oneOperand (h : field w 11 9 = 2) : decodeGroup9 w w1 = decodeOneOperand w w1 := by
  have hk := field_upper w 11 9 8 (by decide) (by decide)
  obtain hn | hn : field w 11 8 = 4 ∨ field w 11 8 = 5 := by omega
  all_goals simp only [decodeGroup9, hn]

theorem decodeGroup9_mul (h : field w 11 10 = 3) : decodeGroup9 w w1 = .ok (.mul (regD w) (regR w)) := by
  have hk := field_upper w 11 10 8 (by decide) (by decide)
  have hlt := field_lt w 11 8
  obtain hn | hn | hn | hn : field w 11 8 = 12 ∨ field w 11 8 = 13 ∨ field w 11 8 = 14 ∨ field w 11 8 = 15 := by omega
  all_goals simp only [decodeGroup9, hn]

theorem decodeOneOperand_jmp (h : field w 3 1 = 6) : decodeOneOperand w w1 = .ok (.jmp (target22 w w1)) := by
  have hk := field_upper w 3 1 0 (by decide) (by decide)
  obtain hn | hn : field w 3 0 = 12 ∨ field w 3 0 = 13 := by omega
  all_goals simp only [decodeOneOperand, hn]

theorem decodeOneOperand_call (h : field w 3 1 = 7) : decodeOneOperand w w1 = .ok (.call (target22 w w1)) := by
  have hk := field_upper w 3 1 0 (by decide) (by decide)
  obtain hn | hn : field w 3 0 = 14 ∨ field w 3 0 = 15 := by omega
  all_goals simp only [decodeOneOperand, hn]

/-- The words of the displaced loads and stores on a CPU version: `1010 ...` is none of them on AVRrc (30_encoding.md
R131). -/
def IsDisplaced (c : Cpu) (w : Word) : Prop := field w 15 12 = 8 ∨ c ≠ .avrRc ∧ field w 15 12 = 10

theorem decodeWords_displaced (h : IsDisplaced c w) : decodeWords c w w1 = decodeDisplaced w := by
  obtain hg | ⟨hc, hg⟩ := h
  · simp only [decodeWords, hg]
  · simp only [decodeWords, hg, decodeGroup10, hc, if_false]

theorem isDisplaced_of_disp {q : BitVec 6} (hg : field w 15 12 = 8 + q.toNat / 32 * 2)
    (henc : (decide (c ≠ .avrRc) || decide (q.toNat < 32)) = true) : IsDisplaced c w := by
  have hq := q.isLt
  simp only [Bool.or_eq_true, decide_eq_true_eq] at henc
  by_cases hlow : q.toNat < 32
  · exact .inl (by omega)
  · exact .inr ⟨henc.resolve_right hlow, by omega⟩

theorem IsDisplaced.group (h : IsDisplaced c w) : field w 15 12 = 8 + (disp6 w).toNat / 32 * 2 := by
  have h2 := field_lt w 2 0
  have h11 := field_lt w 11 10
  rw [disp6_toNat, field_13]
  obtain hg | ⟨-, hg⟩ := h <;> omega

theorem IsDisplaced.encodable (h : IsDisplaced c w) :
    (decide (c ≠ .avrRc) || decide ((disp6 w).toNat < 32)) = true := by
  have hgroup := h.group
  obtain hg | ⟨hc, -⟩ := h
  · have hlow : (disp6 w).toNat < 32 := by omega
    simp [hlow]
  · simp [hc]

/-! ### A decoded instruction has the words it was decoded from -/

/-- `w`, with `w1` after it where there are two, is the encoding on `c` of `i`, an instruction with words of its own. -/
structure HasWords (c : Cpu) (w w1 : Word) (i : Instr) : Prop where
  wf : i.wf = true
  encodable : i.encodableOn c = true
  canonical : i.canonical = i
  words : encode i = if i.words = 2 then [w, w1] else [w]

/-- The rows of `0000 00..` (30_encoding.md R129): NOP, MOVW, MULS and the products of R16 to R23. -/
theorem hasWords_of_decodeGroup0_low (hg : field w 15 12 = 0) (hk : field w 11 10 = 0) (h : decodeGroup0 w = .ok i) :
    HasWords c w w1 i := by
  have hupper := field_upper w 11 10 8 (by decide) (by decide)
  obtain hn | hn | hn | hn : field w 11 8 = 0 ∨ field w 11 8 = 1 ∨ field w 11 8 = 2 ∨ field w 11 8 = 3 := by omega
  all_goals simp only [decodeGroup0, hn] at h
  · split at h <;> cases h
    next hzero => exact ⟨rfl, rfl, rfl, hzero ▸ rfl⟩
  · cases h
    exact ⟨by simp [Instr.wf], rfl, rfl,
      (movwWord_eq_iff (pairD_isPair w) (pairR_isPair w)).2 ⟨hg, hn, rfl, rfl⟩⟩
  · cases h
    exact ⟨by simp [Instr.wf], rfl, rfl,
      (mulsWord_eq_iff (upperD_isUpper w) (upperR_isUpper w)).2 ⟨hg, hn, rfl, rfl⟩⟩
  · have hlt7 := field_lt w 7 7
    have hlt3 := field_lt w 3 3
    obtain h7 | h7 : field w 7 7 = 0 ∨ field w 7 7 = 1 := by omega
    all_goals obtain h3 | h3 : field w 3 3 = 0 ∨ field w 3 3 = 1 := by omega
    all_goals
      simp only [h7, h3] at h
      cases h
      exact ⟨by simp [Instr.wf], rfl, rfl, (encMul3_eq_iff (by decide) (mulD_isMulUpper w) (mulR_isMulUpper w)).2
        ⟨hg, hn, h7, h3, rfl, rfl⟩⟩

theorem hasWords_of_decodeGroup0 (hg : field w 15 12 = 0) (h : decodeGroup0 w = .ok i) : HasWords c w w1 i := by
  have hlt := field_lt w 11 10
  obtain hk | hk | hk | hk : field w 11 10 = 0 ∨ field w 11 10 = 1 ∨ field w 11 10 = 2 ∨ field w 11 10 = 3 := by omega
  · exact hasWords_of_decodeGroup0_low hg hk h
  · cases (decodeGroup0_cpc hk).symm.trans h
    exact ⟨rfl, rfl, rfl, (encTwoReg_eq_iff (by decide)).2 ⟨hg, hk, rfl, rfl⟩⟩
  · cases (decodeGroup0_sbc hk).symm.trans h
    exact ⟨rfl, rfl, rfl, (encTwoReg_eq_iff (by decide)).2 ⟨hg, hk, rfl, rfl⟩⟩
  · cases (decodeGroup0_add hk).symm.trans h
    exact ⟨rfl, rfl, rfl, (encTwoReg_eq_iff (by decide)).2 ⟨hg, hk, rfl, rfl⟩⟩

theorem hasWords_of_decodeGroup1 (hg : field w 15 12 = 1) (h : decodeGroup1 w = .ok i) : HasWords c w w1 i := by
  have hlt := field_lt w 11 10
  obtain hk | hk | hk | hk : field w 11 10 = 0 ∨ field w 11 10 = 1 ∨ field w 11 10 = 2 ∨ field w 11 10 = 3 := by omega
  all_goals
    simp only [decodeGroup1, hk] at h
    cases h
    exact ⟨rfl, rfl, rfl, (encTwoReg_eq_iff (by decide)).2 ⟨hg, hk, rfl, rfl⟩⟩

theorem hasWords_of_decodeGroup2 (hg : field w 15 12 = 2) (h : decodeGroup2 w = .ok i) : HasWords c w w1 i := by
  have hlt := field_lt w 11 10
  obtain hk | hk | hk | hk : field w 11 10 = 0 ∨ field w 11 10 = 1 ∨ field w 11 10 = 2 ∨ field w 11 10 = 3 := by omega
  all_goals
    simp only [decodeGroup2, hk] at h
    cases h
    exact ⟨rfl, rfl, rfl, (encTwoReg_eq_iff (by decide)).2 ⟨hg, hk, rfl, rfl⟩⟩

theorem hasWords_of_decodeDisplaced (hd : IsDisplaced c w) (h : decodeDisplaced w = .ok i) : HasWords c w w1 i := by
  have hlt9 := field_lt w 9 9
  have hlt3 := field_lt w 3 3
  by_cases hq : disp6 w = 0#6
  all_goals obtain h9 | h9 : field w 9 9 = 0 ∨ field w 9 9 = 1 := by omega
  all_goals obtain h3 | h3 : field w 3 3 = 0 ∨ field w 3 3 = 1 := by omega
  all_goals
    simp only [decodeDisplaced, h9, h3, hq, if_true, if_false] at h
    cases h
  case pos.inl.inl | pos.inl.inr | pos.inr.inl | pos.inr.inr =>
    exact ⟨rfl, rfl, rfl,
      (encDisp_zero _ _).symm.trans ((encDisp_eq_iff (by decide)).2 ⟨hq ▸ hd.group, h9, h3, rfl, hq⟩)⟩
  case neg.inl.inl | neg.inl.inr | neg.inr.inl | neg.inr.inr =>
    exact ⟨rfl, hd.encodable, if_neg hq, (encDisp_eq_iff (by decide)).2 ⟨hd.group, h9, h3, rfl, rfl⟩⟩

theorem hasWords_of_decodeLoads (hg : field w 15 12 = 9) (hk : field w 11 9 = 0) (h : decodeLoads w w1 = .ok i) :
    HasWords c w w1 i := by
  unfold decodeLoads at h
  split at h <;> cases h
  case h_1.refl hn => exact ⟨rfl, rfl, rfl, (encDirect_eq_iff (by decide)).2 ⟨hg, hk, hn, rfl, rfl⟩⟩
  all_goals exact ⟨rfl, rfl, rfl, (encOneReg_eq_iff (by decide)).2 ⟨hg, hk, by assumption, rfl⟩⟩

theorem hasWords_of_decodeStores (hg : field w 15 12 = 9) (hk : field w 11 9 = 1) (h : decodeStores w w1 = .ok i) :
    HasWords c w w1 i := by
  unfold decodeStores at h
  split at h <;> cases h
  case h_1.refl hn => exact ⟨rfl, rfl, rfl, (encDirect_eq_iff (by decide)).2 ⟨hg, hk, hn, rfl, rfl⟩⟩
  all_goals exact ⟨rfl, rfl, rfl, (encOneReg_eq_iff (by decide)).2 ⟨hg, hk, by assumption, rfl⟩⟩

/-- A word of the one-register format is its fixed bits and its register field. The instructions without operands have
such words, each with its own number in the field. -/
theorem eq_wordOf_regD {op : Nat} (hop : op = op / 4096 % 16 * 4096 + op / 512 % 8 * 512 + op % 16)
    (hg : field w 15 12 = op / 4096 % 16) (hk : field w 11 9 = op / 512 % 8) (hn : field w 3 0 = op % 16) :
    w = wordOf (op + field w 8 4 * 16) := by
  have h := (encOneReg_eq_iff hop).2 ⟨hg, hk, hn, rfl⟩
  rw [encOneReg, regD_val] at h
  exact (List.cons.inj h).1.symm

theorem hasWords_of_decodeImplied (hg : field w 15 12 = 9) (hk : field w 11 9 = 2) (hn : field w 3 0 = 8)
    (h : decodeImplied w = .ok i) : HasWords c w w1 i := by
  unfold decodeImplied at h
  split at h
  case h_1 h8 | h_2 h8 =>
    cases h
    exact ⟨rfl, rfl, rfl, (encFlag_eq_iff (by decide)).2 ⟨hg, hk, h8, hn, rfl⟩⟩
  case h_3 h0 h1 =>
    have h0 : field w 8 7 ≠ 0 := h0
    have h1 : field w 8 7 ≠ 1 := h1
    have hword := eq_wordOf_regD (op := 0x9408) (by decide) hg hk hn
    have hreg : field w 8 4 = 16 + field w 7 4 := by
      have hupper := field_upper w 8 7 4 (by decide) (by decide)
      have hlower := field_lower w 8 7 4 (by decide)
      have hlt := field_lt w 8 4
      omega
    split at h <;> cases h
    all_goals
      next h7 =>
        rw [hreg, h7] at hword
        exact ⟨rfl, rfl, rfl, congrArg (fun v => [v]) hword.symm⟩

theorem hasWords_of_decodeIndirect (hg : field w 15 12 = 9) (hk : field w 11 9 = 2) (hn : field w 3 0 = 9)
    (h : decodeIndirect w = .ok i) : HasWords c w w1 i := by
  have hword := eq_wordOf_regD (op := 0x9409) (by decide) hg hk hn
  unfold decodeIndirect at h
  split at h <;> cases h
  all_goals
    next h8 =>
      rw [h8] at hword
      exact ⟨rfl, rfl, rfl, congrArg (fun v => [v]) hword.symm⟩

theorem hasWords_of_decodeOneOperand (hg : field w 15 12 = 9) (hk : field w 11 9 = 2)
    (h : decodeOneOperand w w1 = .ok i) : HasWords c w w1 i := by
  have hupper := field_upper w 3 1 0 (by decide) (by decide)
  unfold decodeOneOperand at h
  split at h
  case h_8 hn => exact hasWords_of_decodeImplied hg hk hn h
  case h_9 hn => exact hasWords_of_decodeIndirect hg hk hn h
  case h_11 hn =>
    split at h <;> cases h
    next h8 => exact ⟨rfl, rfl, rfl, desWord_eq_iff.2 ⟨hg, hk, h8, hn, rfl⟩⟩
  case h_12 hn | h_13 hn | h_14 hn | h_15 hn =>
    cases h
    exact ⟨rfl, rfl, rfl, (encJump_eq_iff (by decide)).2 ⟨hg, hk, by omega, rfl⟩⟩
  case h_16 => cases h
  all_goals
    next hn =>
      cases h
      exact ⟨rfl, rfl, rfl, (encOneReg_eq_iff (by decide)).2 ⟨hg, hk, hn, rfl⟩⟩

theorem hasWords_of_decodeGroup9 (hg : field w 15 12 = 9) (h : decodeGroup9 w w1 = .ok i) : HasWords c w w1 i := by
  have hupper := field_upper w 11 9 8 (by decide) (by decide)
  by_cases hmul : field w 11 10 = 3
  · cases (decodeGroup9_mul hmul).symm.trans h
    exact ⟨rfl, rfl, rfl, (encTwoReg_eq_iff (by decide)).2 ⟨hg, hmul, rfl, rfl⟩⟩
  unfold decodeGroup9 at h
  split at h
  case h_1 hn | h_2 hn => exact hasWords_of_decodeLoads hg (by omega) h
  case h_3 hn | h_4 hn => exact hasWords_of_decodeStores hg (by omega) h
  case h_5 hn | h_6 hn => exact hasWords_of_decodeOneOperand hg (by omega) h
  case h_7 hn | h_8 hn =>
    cases h
    exact ⟨wordPairD_isWordPair w, rfl, rfl,
      (encWordImm_eq_iff (by decide) (wordPairD_isWordPair w)).2 ⟨hg, hn, rfl, rfl⟩⟩
  case h_9 hn | h_10 hn | h_11 hn | h_12 hn =>
    cases h
    exact ⟨rfl, rfl, rfl, (encIoBit_eq_iff (by decide)).2 ⟨hg, hn, rfl, rfl⟩⟩
  case h_13 =>
    have hk := field_upper w 11 10 8 (by decide) (by decide)
    have hlt := field_lt w 11 8
    simp only [imp_false] at *
    omega

theorem hasWords_of_decodeGroup10 (hg : field w 15 12 = 10) (h : decodeGroup10 c w = .ok i) : HasWords c w w1 i := by
  unfold decodeGroup10 at h
  split at h
  next hc =>
    have hlt := field_lt w 11 11
    obtain hk | hk : field w 11 11 = 0 ∨ field w 11 11 = 1 := by omega
    all_goals
      simp only [hk] at h
      cases h
      exact ⟨upperD_isUpper w, decide_eq_true hc, rfl,
        (encRc_eq_iff (by decide) (upperD_isUpper w)).2 ⟨hg, hk, rfl, rfl⟩⟩
  next hc => exact hasWords_of_decodeDisplaced (.inr ⟨hc, hg⟩) h

theorem hasWords_of_decodeGroup11 (hg : field w 15 12 = 11) (h : decodeGroup11 w = .ok i) : HasWords c w w1 i := by
  have hlt := field_lt w 11 11
  obtain hk | hk : field w 11 11 = 0 ∨ field w 11 11 = 1 := by omega
  all_goals
    simp only [decodeGroup11, hk] at h
    cases h
    exact ⟨rfl, rfl, rfl, (encIo_eq_iff (by decide)).2 ⟨hg, hk, rfl, rfl⟩⟩

theorem hasWords_of_decodeGroup15 (hg : field w 15 12 = 15) (h : decodeGroup15 w = .ok i) : HasWords c w w1 i := by
  unfold decodeGroup15 at h
  split at h
  case h_1 hk | h_2 hk =>
    cases h
    exact ⟨rfl, rfl, rfl, (encBranch_eq_iff (by decide)).2 ⟨hg, hk, rfl, rfl⟩⟩
  case h_3 h0 h1 =>
    have h0 : field w 11 10 ≠ 0 := h0
    have h1 : field w 11 10 ≠ 1 := h1
    have hupper := field_upper w 11 11 10 (by decide) (by decide)
    have hlt := field_lt w 11 10
    have hlt10 := field_lt w 10 9
    split at h
    case isFalse => cases h
    case isTrue h3 =>
      obtain hn | hn | hn | hn : field w 10 9 = 0 ∨ field w 10 9 = 1 ∨ field w 10 9 = 2 ∨ field w 10 9 = 3 := by omega
      all_goals
        simp only [hn] at h
        cases h
        exact ⟨rfl, rfl, rfl, (encRegBit_eq_iff (by decide)).2 ⟨hg, by omega, hn, h3, rfl, rfl⟩⟩

theorem hasWords_of_decodeWords (h : decodeWords c w w1 = .ok i) : HasWords c w w1 i := by
  unfold decodeWords at h
  split at h
  case h_1 hg => exact hasWords_of_decodeGroup0 hg h
  case h_2 hg => exact hasWords_of_decodeGroup1 hg h
  case h_3 hg => exact hasWords_of_decodeGroup2 hg h
  case h_4 hg | h_5 hg | h_6 hg | h_7 hg | h_8 hg | h_15 hg =>
    cases h
    exact ⟨upperD_isUpper w, rfl, rfl, (encImm_eq_iff (by decide) (upperD_isUpper w)).2 ⟨hg, rfl, rfl⟩⟩
  case h_9 hg => exact hasWords_of_decodeDisplaced (.inl hg) h
  case h_10 hg => exact hasWords_of_decodeGroup9 hg h
  case h_11 hg => exact hasWords_of_decodeGroup10 hg h
  case h_12 hg => exact hasWords_of_decodeGroup11 hg h
  case h_13 hg | h_14 hg =>
    cases h
    exact ⟨rfl, rfl, rfl, (relativeWord_eq_iff (by decide)).2 ⟨hg, rfl⟩⟩
  case h_16 =>
    have hlt := field_lt w 15 12
    simp only [imp_false] at *
    exact hasWords_of_decodeGroup15 (by omega) h

/-! ### The words of an instruction decode to it -/

/-- The case split is over the instructions, those of one group and one format together: the format read back gives the
fixed fields, and they lead through the decoder. A name of another instruction's words is not canonical. -/
theorem decodeWords_of_hasWords (h : HasWords c w w1 i) : decodeWords c w w1 = .ok i := by
  obtain ⟨hwf, henc, hcan, hw⟩ := h
  cases i with
  | cpc | sbc | add =>
    obtain ⟨hg, hk, rfl, rfl⟩ := (encTwoReg_eq_iff (by decide)).1 hw
    simp [decodeWords, hg, decodeGroup0_cpc, decodeGroup0_sbc, decodeGroup0_add, hk]
  | nop =>
    cases hw
    rfl
  | movw =>
    obtain ⟨hd, hr⟩ := Bool.and_eq_true_iff.1 hwf
    obtain ⟨hg, hk, rfl, rfl⟩ := (movwWord_eq_iff hd hr).1 hw
    simp [decodeWords, hg, decodeGroup0, hk]
  | muls =>
    obtain ⟨hd, hr⟩ := Bool.and_eq_true_iff.1 hwf
    obtain ⟨hg, hk, rfl, rfl⟩ := (mulsWord_eq_iff hd hr).1 hw
    simp [decodeWords, hg, decodeGroup0, hk]
  | mulsu | fmul | fmuls | fmulsu =>
    obtain ⟨hd, hr⟩ := Bool.and_eq_true_iff.1 hwf
    obtain ⟨hg, hk, h7, h3, rfl, rfl⟩ := (encMul3_eq_iff (by decide) hd hr).1 hw
    simp [decodeWords, hg, decodeGroup0, hk, h7, h3]
  | cpse | cp | sub | adc =>
    obtain ⟨hg, hk, rfl, rfl⟩ := (encTwoReg_eq_iff (by decide)).1 hw
    simp [decodeWords, hg, decodeGroup1, hk]
  | and | eor | or | mov =>
    obtain ⟨hg, hk, rfl, rfl⟩ := (encTwoReg_eq_iff (by decide)).1 hw
    simp [decodeWords, hg, decodeGroup2, hk]
  | cpi | sbci | subi | ori | andi | ldi =>
    obtain ⟨hg, rfl, rfl⟩ := (encImm_eq_iff (by decide) hwf).1 hw
    simp [decodeWords, hg]
  | lddY d q | lddZ d q | stdY q d | stdZ q d =>
    obtain ⟨hg, hy, hz, rfl, rfl⟩ := (encDisp_eq_iff (by decide)).1 hw
    have hq : disp6 w ≠ 0#6 := by
      intro hq
      simp [Instr.canonical, hq] at hcan
    simp [decodeWords_displaced (isDisplaced_of_disp hg henc), decodeDisplaced, hy, hz, hq]
  | ldY | ldZ | stY | stZ =>
    obtain ⟨hg, hy, hz, rfl, hq⟩ := (encDisp_eq_iff (by decide)).1 ((encDisp_zero _ _).trans hw)
    simp [decodeWords_displaced (isDisplaced_of_disp hg (by simp)), decodeDisplaced, hy, hz, hq]
  | lds | sts =>
    obtain ⟨hg, hk, hn, rfl, rfl⟩ := (encDirect_eq_iff (by decide)).1 hw
    simp [decodeWords, hg, decodeGroup9_loads, decodeGroup9_stores, hk, decodeLoads, decodeStores, hn]
  | ldZInc | ldZDec | ldYInc | ldYDec | ldX | ldXInc | ldXDec | lpmZ | lpmZInc | elpmZ | elpmZInc | pop =>
    obtain ⟨hg, hk, hn, rfl⟩ := (encOneReg_eq_iff (by decide)).1 hw
    simp [decodeWords, hg, decodeGroup9_loads, hk, decodeLoads, hn]
  | stZInc | stZDec | stYInc | stYDec | stX | stXInc | stXDec | xch | las | lac | lat | push =>
    obtain ⟨hg, hk, hn, rfl⟩ := (encOneReg_eq_iff (by decide)).1 hw
    simp [decodeWords, hg, decodeGroup9_stores, hk, decodeStores, hn]
  | com | neg | swap | inc | asr | lsr | ror | dec =>
    obtain ⟨hg, hk, hn, rfl⟩ := (encOneReg_eq_iff (by decide)).1 hw
    simp [decodeWords, hg, decodeGroup9_oneOperand, hk, decodeOneOperand, hn]
  | bset | bclr =>
    obtain ⟨hg, hk, h8, hn, rfl⟩ := (encFlag_eq_iff (by decide)).1 hw
    simp [decodeWords, hg, decodeGroup9_oneOperand, hk, decodeOneOperand, hn, decodeImplied, h8]
  | ret | reti | sleep | break_ | wdr | lpm | elpm | spm | spmZInc | ijmp | eijmp | icall | eicall =>
    cases hw
    rfl
  | des =>
    obtain ⟨hg, hk, h8, hn, rfl⟩ := desWord_eq_iff.1 hw
    simp [decodeWords, hg, decodeGroup9_oneOperand, hk, decodeOneOperand, hn, h8]
  | jmp | call =>
    obtain ⟨hg, hk, hn, rfl⟩ := (encJump_eq_iff (by decide)).1 hw
    simp [decodeWords, hg, decodeGroup9_oneOperand, hk, decodeOneOperand_jmp, decodeOneOperand_call, hn]
  | adiw | sbiw =>
    obtain ⟨hg, hk, rfl, rfl⟩ := (encWordImm_eq_iff (by decide) hwf).1 hw
    simp [decodeWords, hg, decodeGroup9, hk]
  | cbi | sbic | sbi | sbis =>
    obtain ⟨hg, hk, rfl, rfl⟩ := (encIoBit_eq_iff (by decide)).1 hw
    simp [decodeWords, hg, decodeGroup9, hk]
  | mul =>
    obtain ⟨hg, hk, rfl, rfl⟩ := (encTwoReg_eq_iff (by decide)).1 hw
    simp [decodeWords, hg, decodeGroup9_mul, hk]
  | ldsRc | stsRc =>
    obtain ⟨hg, hk, rfl, rfl⟩ := (encRc_eq_iff (by decide) hwf).1 hw
    simp [decodeWords, hg, decodeGroup10, of_decide_eq_true henc, hk]
  | in_ | out =>
    obtain ⟨hg, hk, rfl, rfl⟩ := (encIo_eq_iff (by decide)).1 hw
    simp [decodeWords, hg, decodeGroup11, hk]
  | rjmp | rcall =>
    obtain ⟨hg, rfl⟩ := (relativeWord_eq_iff (by decide)).1 hw
    simp [decodeWords, hg]
  | brbs | brbc =>
    obtain ⟨hg, hk, rfl, rfl⟩ := (encBranch_eq_iff (by decide)).1 hw
    simp [decodeWords, hg, decodeGroup15, hk]
  | bld | bst | sbrc | sbrs =>
    obtain ⟨hg, h11, hn, h3, rfl, rfl⟩ := (encRegBit_eq_iff (by decide)).1 hw
    have hupper := field_upper w 11 11 10 (by decide) (by decide)
    obtain hk | hk : field w 11 10 = 2 ∨ field w 11 10 = 3 := by omega
    all_goals simp [decodeWords, hg, decodeGroup15, hk, hn, h3]
  | _ => nomatch hcan

theorem decodeWords_ok_iff : decodeWords c w w1 = .ok i ↔ HasWords c w w1 i :=
  ⟨hasWords_of_decodeWords, decodeWords_of_hasWords⟩

end Sys2Proof
end

section
/-! A second name is the instruction it names: it has that instruction's words, operands and effect (30_encoding.md
R134). -/

namespace Sys2Proof

/-! ### What the canonical name keeps -/

namespace Instr

theorem encode_canonical (i : Instr) : encode i.canonical = encode i := by
  cases i with
  | lddY d q | lddZ d q | stdY q d | stdZ q d =>
    by_cases hq : q = 0#6
    · subst hq; exact (encDisp_zero _ _).symm
    · simp [Instr.canonical, hq]
  | _ => rfl

theorem canonical_keeps (i : Instr) (c : Cpu) :
    i.canonical.words = i.words ∧ i.canonical.wf = i.wf ∧ i.canonical.encodableOn c = i.encodableOn c := by
  cases i with
  | lddY d q | lddZ d q | stdY q d | stdZ q d =>
    by_cases hq : q = 0#6 <;> simp [Instr.canonical, hq, Instr.words, Instr.wf, Instr.encodableOn]
  | _ => exact ⟨rfl, rfl, rfl⟩

theorem canonical_canonical (i : Instr) : i.canonical.canonical = i.canonical := by
  cases i with
  | lddY d q | lddZ d q | stdY q d | stdZ q d => by_cases hq : q = 0#6 <;> simp [Instr.canonical, hq]
  | _ => rfl

end Instr

end Sys2Proof

namespace Sys2Proof.Machine

/-! ### One register named twice -/

theorem State.twoReg_self (s : State) (d : Reg) (f : Byte → Byte → Byte × Sreg) :
    s.twoReg d d f = s.oneReg d fun a => f a a := by
  unfold State.twoReg State.oneReg
  cases s.readReg d <;> rfl

/-- A byte added to itself, with the carry, is the byte shifted left with the carry in bit 0. -/
theorem add_self_add_carryIn (a : Byte) (cin : Bool) : a + a + carryIn cin = a <<< 1 ||| carryIn cin := by
  have hdouble : a + a = a <<< 1 := by
    apply BitVec.eq_of_toNat_eq
    simp [Nat.shiftLeft_eq]; omega
  have hdisjoint : a <<< 1 &&& carryIn cin = 0#8 := by
    ext n hn
    cases cin <;> cases n <;> simp [carryIn]
  rw [hdouble, BitVec.add_eq_or_of_and_eq_zero _ _ hdisjoint]

/-- The flags of a sum of equal bytes are those of the left shift, whatever the carry (40_arithmetic_logic.md R160,
45_bit_and_bit_test.md R360, R362). -/
theorem addFlags_self (f : Sreg) (a : Byte) (cin : Bool) :
    addFlags f a a cin = (a <<< 1 ||| carryIn cin, shiftLeftFlags f a (a <<< 1 ||| carryIn cin)) := by
  simp only [addFlags, add_self_add_carryIn, shiftLeftFlags]
  generalize a.getLsbD 3 = a3
  generalize a.getLsbD 7 = a7
  cases a3 <;> cases a7 <;> simp

theorem exec_lsl_eq (d : Reg) (s : State) : exec (.add d d) s = exec (.lsl d) s := by
  change finish _ = finish _
  rw [State.twoReg_self]
  simp [addFlags_self, carryIn]

theorem exec_rol_eq (d : Reg) (s : State) : exec (.adc d d) s = exec (.rol d) s := by
  change finish _ = finish _
  simp only [State.twoReg_self, addFlags_self]

theorem exec_tst_eq (d : Reg) (s : State) : exec (.and d d) s = exec (.tst d) s :=
  congrArg finish (s.twoReg_self d _)

theorem exec_cbr_eq (d : Reg) (K : Byte) (s : State) : exec (.andi d (~~~K)) s = exec (.cbr d K) s := by
  have hK : ~~~K = 0xFF#8 - K := by
    apply BitVec.eq_of_toNat_eq
    have := K.isLt
    simp [BitVec.toNat_sub]; omega
  rw [hK]
  rfl

/-- CLR does not read its register, EOR does; where the register is absent both stop with the same fault. -/
theorem exec_clr_eq (d : Reg) (s : State) : exec (.eor d d) s = exec (.clr d) s := by
  change finish _ = finish _
  rw [State.twoReg_self]
  by_cases hd : s.hasReg d = true
  · rw [State.oneReg_eq _ hd, State.writeReg_of_hasReg _ hd, BitVec.xor_self]
    rfl
  · rw [State.oneReg, State.readReg, State.writeReg, if_neg hd, if_neg hd]
    rfl

theorem exec_bset_eq (b : Bit) (s : State) :
    exec (.bset b) s =
      .next (((s.setSreg (s.sreg.withBit b true)).setIrqInhibit (s.irqInhibit || decide (b = 7))).advance 1) := rfl

/-- BSET of a flag other than I leaves the latch as it is. -/
theorem exec_bset_of_ne {b : Bit} (hb : b ≠ 7) (s : State) :
    exec (.bset b) s = .next ((s.setSreg (s.sreg.withBit b true)).advance 1) := by
  rw [exec_bset_eq, decide_eq_false hb, Bool.or_false]
  rfl

/-- BSET of I sets the latch, set or not before. -/
theorem exec_sei_eq (s : State) : exec (.bset 7) s = exec .sei s := by
  rw [exec_bset_eq, decide_eq_true rfl, Bool.or_true]
  rfl

theorem exec_canonical (i : Instr) (s : State) : exec i.canonical s = exec i s := by
  cases i with
  | cbr d K => exact exec_cbr_eq d K s
  | tst d => exact exec_tst_eq d s
  | clr d => exact exec_clr_eq d s
  | lsl d => exact exec_lsl_eq d s
  | rol d => exact exec_rol_eq d s
  | lddY d q | lddZ d q | stdY q d | stdZ q d =>
    by_cases hq : q = 0#6
    · subst hq; rfl
    · simp [Instr.canonical, hq]
  | sec | sen | sez | ses | sev | set | seh => exact exec_bset_of_ne (by decide) s
  | sei => exact exec_sei_eq s
  | _ => rfl

/-- Settles O5: the canonical name has the same words, and its arm of `exec` the same effect. -/
theorem secondNames : Obligations.SecondNames :=
  fun i s => ⟨i.encode_canonical, exec_canonical i s⟩

end Sys2Proof.Machine
end

section
/-! The round trip of instructions and bytes, from the round trip of instructions and words. -/

namespace Sys2Proof

variable {c : Cpu} {w w1 : Word} {i : Instr}

theorem encode_eq_words (i : Instr) : ∃ w w1, encode i = if i.words = 2 then [w, w1] else [w] := by
  cases i with
  | lds | sts | jmp | call => exact ⟨_, _, rfl⟩
  | _ => exact ⟨_, 0#16, rfl⟩

theorem hasWords_canonical (hwf : i.wf = true) (henc : i.encodableOn c = true)
    (hw : encode i = if i.words = 2 then [w, w1] else [w]) : HasWords c w w1 i.canonical := by
  obtain ⟨hwords, hwf', henc'⟩ := i.canonical_keeps c
  exact ⟨hwf'.trans hwf, henc'.trans henc, i.canonical_canonical, by rw [i.encode_canonical, hwords, hw]⟩

theorem wordOfBytes_extract (w : Word) : wordOfBytes (w.extractLsb' 0 8) (w.extractLsb' 8 8) = w := by
  rw [wordOfBytes, BitVec.extractLsb'_append_extractLsb'_eq_extractLsb' (by decide)]
  exact BitVec.extractLsb'_eq_self

/-- Of a one-word instruction the second word is no part. -/
theorem HasWords.one (h : HasWords c w w1 i) (hone : i.words = 1) (v : Word) : HasWords c w v i :=
  ⟨h.wf, h.encodable, h.canonical, by simpa [hone] using h.words⟩

theorem decodeBytes_of_hasWords (h : HasWords c w w1 i) (rest : List Byte) :
    decodeBytes c (encodeBytes i ++ rest) = .ok (i, rest) := by
  have hdec := decodeWords_of_hasWords h
  obtain hone | htwo := i.words_eq_one_or_two
  · have hzero := decodeWords_of_hasWords (h.one hone 0#16)
    simp [encodeBytes, h.words, hone, decodeBytes, wordOfBytes_extract, hzero]
  · obtain ⟨j, hj, hform⟩ : ∃ j, decodeWords c w 0#16 = .ok j ∧ j.form = i.form := by
      have hform := decodeWords_form c w 0#16 w1
      rw [hdec] at hform
      cases hj : decodeWords c w 0#16 with
      | error e => rw [hj] at hform; cases hform
      | ok j => rw [hj] at hform; exact ⟨j, rfl, Except.ok.inj hform⟩
    have hwords : j.words = 2 := (Instr.form_eq_iff.1 hform).2.trans htwo
    simp [encodeBytes, h.words, htwo, decodeBytes, wordOfBytes_extract, hj, hwords, hdec]

/-- Settles O1: an instruction's words are those of its canonical name, which decodes from them. -/
theorem decodeOfEncode : Obligations.DecodeOfEncode := by
  intro c i rest hwf henc
  obtain ⟨w, w1, hw⟩ := encode_eq_words i
  have h := decodeBytes_of_hasWords (hasWords_canonical hwf henc hw) rest
  rwa [encodeBytes, i.encode_canonical] at h

/-- Settles O2: what decodes has the words it was decoded from. -/
theorem encodeOfDecode : Obligations.EncodeOfDecode := by
  intro c w w1 i h
  obtain ⟨hwf, henc, hcan, hwords⟩ := decodeWords_ok_iff.1 h
  exact ⟨hwf, henc, hcan, hwords⟩

/-- Settles O4: each word is decoded by computation. -/
theorem sampleWordsDecode : Obligations.SampleWordsDecode := by
  unfold Obligations.SampleWordsDecode
  decide

end Sys2Proof
end

section
/-! The masks of the spec's tables, as fields of the word (30_encoding.md R132, R133). -/

namespace Sys2Proof

/-- A mask of one run of bits keeps the field there. -/
theorem toNat_and_run (w : Word) (hi lo : Nat) :
    w.toNat &&& (2 ^ (hi + 1 - lo) - 1) <<< lo = field w hi lo <<< lo := by
  rw [field, ← Nat.and_two_pow_sub_one_eq_mod, ← Nat.shiftRight_eq_div_pow]
  apply Nat.eq_of_testBit_eq
  intro n
  by_cases hn : lo ≤ n <;> simp [hn, Bool.and_comm]

/-- A mask of two runs of bits keeps the two fields. -/
theorem toNat_and_runs (w : Word) (hi lo hi' lo' : Nat) (h : lo' ≤ hi') (hgap : hi' < lo) :
    w.toNat &&& ((2 ^ (hi + 1 - lo) - 1) <<< lo ||| (2 ^ (hi' + 1 - lo') - 1) <<< lo') =
      field w hi lo * 2 ^ lo + field w hi' lo' * 2 ^ lo' := by
  have hlow : field w hi' lo' <<< lo' < 2 ^ lo :=
    calc field w hi' lo' <<< lo' = field w hi' lo' * 2 ^ lo' := Nat.shiftLeft_eq ..
      _ < 2 ^ (hi' + 1 - lo') * 2 ^ lo' := Nat.mul_lt_mul_of_pos_right (field_lt w hi' lo') (by positivity)
      _ = 2 ^ (hi' + 1) := by rw [← Nat.pow_add]; congr 1; omega
      _ ≤ 2 ^ lo := Nat.pow_le_pow_right (by decide) hgap
  rw [Nat.and_or_distrib_left, toNat_and_run w hi lo, toNat_and_run w hi' lo',
    ← Nat.shiftLeft_add_eq_or_of_lt hlow, Nat.shiftLeft_eq, Nat.shiftLeft_eq]

theorem and_F000 (w : Word) : (w &&& 0xF000#16).toNat = field w 15 12 * 4096 := by
  simpa [Nat.shiftLeft_eq] using toNat_and_run w 15 12

theorem and_FF00 (w : Word) : (w &&& 0xFF00#16).toNat = field w 15 8 * 256 := by
  simpa [Nat.shiftLeft_eq] using toNat_and_run w 15 8

theorem and_FE0F (w : Word) : (w &&& 0xFE0F#16).toNat = field w 15 9 * 512 + field w 3 0 := by
  simpa using toNat_and_runs w 15 9 3 0 (by decide) (by decide)

theorem and_FF0F (w : Word) : (w &&& 0xFF0F#16).toNat = field w 15 8 * 256 + field w 3 0 := by
  simpa using toNat_and_runs w 15 8 3 0 (by decide) (by decide)

theorem and_F808 (w : Word) : (w &&& 0xF808#16).toNat = field w 15 11 * 2048 + field w 3 3 * 8 := by
  simpa using toNat_and_runs w 15 11 3 3 (by decide) (by decide)

theorem and_FE0C (w : Word) : (w &&& 0xFE0C#16).toNat = field w 15 9 * 512 + field w 3 2 * 4 := by
  simpa using toNat_and_runs w 15 9 3 2 (by decide) (by decide)

theorem and_FC0F (w : Word) : (w &&& 0xFC0F#16).toNat = field w 15 10 * 1024 + field w 3 0 := by
  simpa using toNat_and_runs w 15 10 3 0 (by decide) (by decide)

end Sys2Proof
end

section
/-! What the first word alone tells: the one-word LDS and STS of AVRrc, the length of an instruction, and the words that
are no instruction (30_encoding.md R131 to R133). -/

namespace Sys2Proof

variable {c : Cpu} {w w1 : Word} {i : Instr}

/-! ### The words `1010 ...` -/

theorem overlayMask_iff : w &&& 0xF000#16 = 0xA000#16 ↔ field w 15 12 = 10 := by
  rw [← BitVec.toNat_inj, and_F000, BitVec.toNat_ofNat]
  omega

/-- A displacement of 32 or more is one whose top bit is set (30_encoding.md R126). -/
theorem disp6_ge_of_group (hg : field w 15 12 = 10) : 32 ≤ (disp6 w).toNat := by
  have h13 := field_13 w
  rw [disp6_toNat]
  omega

/-- Settles O6: the group is the one the CPU version decides on, and its top displacement bit is set. -/
theorem reducedCoreOverlay : Obligations.ReducedCoreOverlay := by
  intro c w w1 hmask
  have hg : field w 15 12 = 10 := overlayMask_iff.1 hmask
  split
  next hc =>
    have hlt := field_lt w 11 11
    obtain hk | hk : field w 11 11 = 0 ∨ field w 11 11 = 1 := by omega
    · exact .inl ⟨upperD w, addr7 w, by simp [decodeWords, hg, decodeGroup10, hc, hk]⟩
    · exact .inr ⟨addr7 w, upperD w, by simp [decodeWords, hg, decodeGroup10, hc, hk]⟩
  next hc =>
    have hq := disp6_ge_of_group hg
    have hq0 : disp6 w ≠ 0#6 := by
      intro h
      simp [h] at hq
    have hdec : decodeWords c w w1 = decodeDisplaced w := decodeWords_displaced (.inr ⟨hc, hg⟩)
    have hlt9 := field_lt w 9 9
    have hlt3 := field_lt w 3 3
    obtain h9 | h9 : field w 9 9 = 0 ∨ field w 9 9 = 1 := by omega
    all_goals obtain h3 | h3 : field w 3 3 = 0 ∨ field w 3 3 = 1 := by omega
    · exact .inl ⟨regD w, disp6 w, hq, .inr (by simp [hdec, decodeDisplaced, h9, h3, hq0])⟩
    · exact .inl ⟨regD w, disp6 w, hq, .inl (by simp [hdec, decodeDisplaced, h9, h3, hq0])⟩
    · exact .inr ⟨regD w, disp6 w, hq, .inr (by simp [hdec, decodeDisplaced, h9, h3, hq0])⟩
    · exact .inr ⟨regD w, disp6 w, hq, .inl (by simp [hdec, decodeDisplaced, h9, h3, hq0])⟩

/-! ### The length of an instruction -/

/-- JMP and CALL, by the mask of `Len` (30_encoding.md R133). -/
theorem jumpMask_iff : w &&& 0xFE0C#16 = 0x940C#16 ↔ field w 15 12 = 9 ∧ field w 11 9 = 2 ∧ field w 3 2 = 3 := by
  have hhi := field_upper w 15 12 9 (by decide) (by decide)
  have hlo := field_lower w 15 11 9 (by decide)
  have hlt := field_lt w 3 2
  rw [← BitVec.toNat_inj, and_FE0C, BitVec.toNat_ofNat]
  omega

/-- LDS and STS of two words, by the mask of `Len` (30_encoding.md R133). -/
theorem directMask_iff :
    w &&& 0xFC0F#16 = 0x9000#16 ↔ field w 15 12 = 9 ∧ (field w 11 9 = 0 ∨ field w 11 9 = 1) ∧ field w 3 0 = 0 := by
  have hhi := field_upper w 15 12 9 (by decide) (by decide)
  have hmid := field_upper w 15 10 9 (by decide) (by decide)
  have hlo := field_lower w 15 11 9 (by decide)
  have hlt := field_lt w 3 0
  rw [← BitVec.toNat_inj, and_FC0F, BitVec.toNat_ofNat]
  omega

theorem masks_of_words_two (h : HasWords c w w1 i) (htwo : i.words = 2) :
    w &&& 0xFE0C#16 = 0x940C#16 ∨ w &&& 0xFC0F#16 = 0x9000#16 := by
  obtain ⟨-, -, -, hw⟩ := h
  cases i with
  | jmp | call =>
    obtain ⟨hg, hk, hn, -⟩ := (encJump_eq_iff (by decide)).1 hw
    have hlow := field_upper w 3 2 1 (by decide) (by decide)
    exact .inl (jumpMask_iff.2 ⟨hg, hk, by omega⟩)
  | lds | sts =>
    obtain ⟨hg, hk, hn, -⟩ := (encDirect_eq_iff (by decide)).1 hw
    exact .inr (directMask_iff.2 ⟨hg, by omega, hn⟩)
  | _ => cases htwo

theorem words_two_of_masks (h : decodeWords c w w1 = .ok i)
    (hmask : w &&& 0xFE0C#16 = 0x940C#16 ∨ w &&& 0xFC0F#16 = 0x9000#16) : i.words = 2 := by
  obtain hmask | hmask := hmask
  · obtain ⟨hg, hk, hn⟩ := jumpMask_iff.1 hmask
    have hlow := field_upper w 3 2 1 (by decide) (by decide)
    obtain hn | hn : field w 3 1 = 6 ∨ field w 3 1 = 7 := by omega
    · simp only [decodeWords, hg, decodeGroup9_oneOperand hk, decodeOneOperand_jmp hn] at h
      cases h; rfl
    · simp only [decodeWords, hg, decodeGroup9_oneOperand hk, decodeOneOperand_call hn] at h
      cases h; rfl
  · obtain ⟨hg, hk, hn⟩ := directMask_iff.1 hmask
    obtain hk | hk := hk
    · simp only [decodeWords, hg, decodeGroup9_loads hk, decodeLoads, hn] at h
      cases h; rfl
    · simp only [decodeWords, hg, decodeGroup9_stores hk, decodeStores, hn] at h
      cases h; rfl

/-- Settles O7: the masks of `Len` are those of the four two-word rows. -/
theorem skipLength : Obligations.SkipLength := by
  intro c w w1 i h
  by_cases hc : c = .avrRc
  · simp [Machine.instructionLength, hc]
  have hiff : i.words = 2 ↔ w &&& 0xFE0C#16 = 0x940C#16 ∨ w &&& 0xFC0F#16 = 0x9000#16 :=
    ⟨masks_of_words_two (hasWords_of_decodeWords h), words_two_of_masks h⟩
  obtain hone | htwo := i.words_eq_one_or_two
  · have hmasks : ¬ (w &&& 0xFE0C#16 = 0x940C#16 ∨ w &&& 0xFC0F#16 = 0x9000#16) := by
      rw [← hiff]; omega
    simp [Machine.instructionLength, hc, hone, hmasks]
  · simp [Machine.instructionLength, hc, htwo, hiff.1 htwo]

/-! ### The words that are no instruction -/

theorem decodeGroup0_illegal_iff : decodeGroup0 w = .error (.illegal w) ↔ field w 11 8 = 0 ∧ w ≠ 0#16 := by
  unfold decodeGroup0
  split
  case h_1 h8 =>
    split
    next hw => exact iff_of_false nofun fun h => h.2 hw
    next hw => exact iff_of_true rfl ⟨h8, hw⟩
  case h_4 h8 =>
    have hok : field w 11 8 ≠ 0 := by omega
    split <;> exact iff_of_false nofun fun h => hok h.1
  case h_13 h0 => exact iff_of_false nofun fun h => by simp_all
  all_goals exact iff_of_false nofun fun h => by omega

theorem decodeLoads_illegal_iff :
    decodeLoads w w1 = .error (.illegal w) ↔ field w 3 0 = 3 ∨ field w 3 0 = 8 ∨ field w 3 0 = 11 := by
  have hlt := field_lt w 3 0
  interval_cases hn : field w 3 0 <;> simp [decodeLoads, hn]

theorem decodeStores_illegal_iff :
    decodeStores w w1 = .error (.illegal w) ↔ field w 3 0 = 3 ∨ field w 3 0 = 8 ∨ field w 3 0 = 11 := by
  have hlt := field_lt w 3 0
  interval_cases hn : field w 3 0 <;> simp [decodeStores, hn]

theorem decodeImplied_illegal_iff :
    decodeImplied w = .error (.illegal w) ↔ field w 8 4 ∈ [18, 19, 20, 21, 22, 23, 27] := by
  have hlt := field_lt w 8 4
  rw [decodeImplied, field_upper w 8 7 4 (by decide) (by decide), field_lower w 8 7 4 (by decide)]
  interval_cases hn : field w 8 4 <;> simp

theorem decodeIndirect_illegal_iff :
    decodeIndirect w = .error (.illegal w) ↔ field w 8 4 ∉ [0, 1, 16, 17] := by
  have hlt := field_lt w 8 4
  interval_cases hn : field w 8 4 <;> simp [decodeIndirect, hn]

theorem decodeOneOperand_illegal_iff :
    decodeOneOperand w w1 = .error (.illegal w) ↔
      field w 3 0 = 4 ∨ (field w 3 0 = 8 ∧ field w 8 4 ∈ [18, 19, 20, 21, 22, 23, 27]) ∨
        (field w 3 0 = 9 ∧ field w 8 4 ∉ [0, 1, 16, 17]) ∨ (field w 3 0 = 11 ∧ field w 8 8 = 1) := by
  have hlt := field_lt w 3 0
  have hlt8 := field_lt w 8 8
  rw [← decodeImplied_illegal_iff, ← decodeIndirect_illegal_iff]
  interval_cases hn : field w 3 0 <;> simp [decodeOneOperand, hn]
  omega

theorem decodeGroup15_illegal_iff :
    decodeGroup15 w = .error (.illegal w) ↔ field w 11 11 = 1 ∧ field w 3 3 = 1 := by
  have hupper := field_upper w 11 11 10 (by decide) (by decide)
  have hlt := field_lt w 11 10
  have hlt3 := field_lt w 3 3
  unfold decodeGroup15
  split
  case h_1 hk | h_2 hk => exact iff_of_false nofun fun h => by omega
  case h_3 h0 h1 =>
    have h0 : field w 11 10 ≠ 0 := h0
    have h1 : field w 11 10 ≠ 1 := h1
    split
    next h3 => split <;> exact iff_of_false nofun fun h => by omega
    next h3 => exact iff_of_true rfl ⟨by omega, by omega⟩

/-! Groups `0001`, `0010`, `10q0`, `1010` of AVRrc and `1011` are full (30_encoding.md R132). -/

theorem decodeGroup1_ne_error (e : DecodeReject) : decodeGroup1 w ≠ .error e := by
  unfold decodeGroup1; split <;> nofun

theorem decodeGroup2_ne_error (e : DecodeReject) : decodeGroup2 w ≠ .error e := by
  unfold decodeGroup2; split <;> nofun

theorem decodeDisplaced_ne_error (e : DecodeReject) : decodeDisplaced w ≠ .error e := by
  unfold decodeDisplaced; split <;> split <;> nofun

theorem decodeGroup10_ne_error (e : DecodeReject) : decodeGroup10 c w ≠ .error e := by
  unfold decodeGroup10
  split
  · split <;> nofun
  · exact decodeDisplaced_ne_error e

theorem decodeGroup11_ne_error (e : DecodeReject) : decodeGroup11 w ≠ .error e := by
  unfold decodeGroup11; split <;> nofun

/-- Words `1001 ...` that are no instruction, by their upper seven bits: loads, stores, and the others. -/
theorem decodeGroup9_illegal_iff :
    decodeGroup9 w w1 = .error (.illegal w) ↔
      (field w 11 9 = 0 ∧ decodeLoads w w1 = .error (.illegal w)) ∨
      (field w 11 9 = 1 ∧ decodeStores w w1 = .error (.illegal w)) ∨
      (field w 11 9 = 2 ∧ decodeOneOperand w w1 = .error (.illegal w)) := by
  have hupper := field_upper w 11 9 8 (by decide) (by decide)
  have hlt := field_lt w 11 8
  rw [hupper]
  interval_cases hn : field w 11 8 <;> simp [decodeGroup9, hn]

theorem decodeWords_illegal_iff :
    decodeWords c w w1 = .error (.illegal w) ↔
      (field w 15 12 = 0 ∧ decodeGroup0 w = .error (.illegal w)) ∨
      (field w 15 12 = 9 ∧ decodeGroup9 w w1 = .error (.illegal w)) ∨
      (field w 15 12 = 15 ∧ decodeGroup15 w = .error (.illegal w)) := by
  have hlt := field_lt w 15 12
  interval_cases hg : field w 15 12 <;>
    simp [decodeWords, hg, decodeGroup1_ne_error, decodeGroup2_ne_error, decodeDisplaced_ne_error,
      decodeGroup10_ne_error, decodeGroup11_ne_error]

/-! ### The rows of the table of R132 -/

theorem nopMask_iff : w &&& 0xFF00#16 = 0x0000#16 ↔ field w 15 12 = 0 ∧ field w 11 8 = 0 := by
  have hhi := field_upper w 15 12 8 (by decide) (by decide)
  have hlo := field_lower w 15 11 8 (by decide)
  rw [← BitVec.toNat_inj, and_FF00, BitVec.toNat_ofNat]
  omega

/-- A row whose mask keeps the two ends of the word, the register field left out. -/
theorem endsMask_iff (v : Word) (hv : v &&& 0xFE0F#16 = v) :
    w &&& 0xFE0F#16 = v ↔
      field w 15 12 = field v 15 12 ∧ field w 11 9 = field v 11 9 ∧ field w 3 0 = field v 3 0 := by
  have hhi := field_upper w 15 12 9 (by decide) (by decide)
  have hlo := field_lower w 15 11 9 (by decide)
  have hhi' := field_upper v 15 12 9 (by decide) (by decide)
  have hlo' := field_lower v 15 11 9 (by decide)
  have hlt := field_lt w 3 0
  have hlt' := field_lt v 3 0
  have hv' := (and_FE0F v).symm.trans (congrArg BitVec.toNat hv)
  rw [← BitVec.toNat_inj, and_FE0F, ← hv']
  omega

theorem loadRow_iff :
    (w &&& 0xFE0F#16 = 0x9003#16 ∨ w &&& 0xFE0F#16 = 0x9008#16 ∨ w &&& 0xFE0F#16 = 0x900B#16) ↔
      field w 15 12 = 9 ∧ field w 11 9 = 0 ∧ (field w 3 0 = 3 ∨ field w 3 0 = 8 ∨ field w 3 0 = 11) := by
  have h3 : w &&& 0xFE0F#16 = 0x9003#16 ↔ field w 15 12 = 9 ∧ field w 11 9 = 0 ∧ field w 3 0 = 3 := endsMask_iff _ rfl
  have h8 : w &&& 0xFE0F#16 = 0x9008#16 ↔ field w 15 12 = 9 ∧ field w 11 9 = 0 ∧ field w 3 0 = 8 := endsMask_iff _ rfl
  have h11 : w &&& 0xFE0F#16 = 0x900B#16 ↔ field w 15 12 = 9 ∧ field w 11 9 = 0 ∧ field w 3 0 = 11 := endsMask_iff _ rfl
  rw [h3, h8, h11]
  omega

theorem storeRow_iff :
    (w &&& 0xFE0F#16 = 0x9203#16 ∨ w &&& 0xFE0F#16 = 0x9208#16 ∨ w &&& 0xFE0F#16 = 0x920B#16) ↔
      field w 15 12 = 9 ∧ field w 11 9 = 1 ∧ (field w 3 0 = 3 ∨ field w 3 0 = 8 ∨ field w 3 0 = 11) := by
  have h3 : w &&& 0xFE0F#16 = 0x9203#16 ↔ field w 15 12 = 9 ∧ field w 11 9 = 1 ∧ field w 3 0 = 3 := endsMask_iff _ rfl
  have h8 : w &&& 0xFE0F#16 = 0x9208#16 ↔ field w 15 12 = 9 ∧ field w 11 9 = 1 ∧ field w 3 0 = 8 := endsMask_iff _ rfl
  have h11 : w &&& 0xFE0F#16 = 0x920B#16 ↔ field w 15 12 = 9 ∧ field w 11 9 = 1 ∧ field w 3 0 = 11 := endsMask_iff _ rfl
  rw [h3, h8, h11]
  omega

theorem unusedRow_iff : w &&& 0xFE0F#16 = 0x9404#16 ↔ field w 15 12 = 9 ∧ field w 11 9 = 2 ∧ field w 3 0 = 4 :=
  endsMask_iff _ rfl

/-- Words of one register field between fixed ends, as numbers. -/
theorem toNat_eq_ends (w : Word) :
    w.toNat = field w 15 12 * 4096 + field w 11 9 * 512 + field w 8 4 * 16 + field w 3 0 := by
  have hcut : w.toNat = w.toNat % 2 ^ (15 + 1) := (Nat.mod_eq_of_lt w.isLt).symm
  rw [hcut, mod_eq_field_add w 15 12 (by decide), mod_eq_field_add w 11 9 (by decide),
    mod_eq_field_add w 8 4 (by decide), mod_eq_field_add w 3 0 (by decide)]
  omega

theorem impliedRow_iff :
    w ∈ [0x9528#16, 0x9538#16, 0x9548#16, 0x9558#16, 0x9568#16, 0x9578#16, 0x95B8#16] ↔
      field w 15 12 = 9 ∧ field w 11 9 = 2 ∧ field w 3 0 = 8 ∧ field w 8 4 ∈ [18, 19, 20, 21, 22, 23, 27] := by
  have hw := toNat_eq_ends w
  have h11 := field_lt w 11 9
  have h8 := field_lt w 8 4
  have h3 := field_lt w 3 0
  simp only [List.mem_cons, List.not_mem_nil, or_false, ← BitVec.toNat_inj, BitVec.toNat_ofNat]
  omega

theorem indirectRow_iff :
    (w &&& 0xFE0F#16 = 0x9409#16 ∧ w ∉ [0x9409#16, 0x9419#16, 0x9509#16, 0x9519#16]) ↔
      field w 15 12 = 9 ∧ field w 11 9 = 2 ∧ field w 3 0 = 9 ∧ field w 8 4 ∉ [0, 1, 16, 17] := by
  have hends : w &&& 0xFE0F#16 = 0x9409#16 ↔ field w 15 12 = 9 ∧ field w 11 9 = 2 ∧ field w 3 0 = 9 :=
    endsMask_iff _ rfl
  have hw := toNat_eq_ends w
  have h8 := field_lt w 8 4
  rw [hends]
  simp only [List.mem_cons, List.not_mem_nil, or_false, ← BitVec.toNat_inj, BitVec.toNat_ofNat]
  omega

theorem desRow_iff :
    w &&& 0xFF0F#16 = 0x950B#16 ↔
      field w 15 12 = 9 ∧ field w 11 9 = 2 ∧ field w 3 0 = 11 ∧ field w 8 8 = 1 := by
  have hhi := field_upper w 15 12 8 (by decide) (by decide)
  have hmid := field_upper w 11 9 8 (by decide) (by decide)
  have hlo := field_lower w 15 11 8 (by decide)
  have hbit := field_lower w 15 8 8 (by decide)
  have hlt := field_lt w 3 0
  rw [← BitVec.toNat_inj, and_FF0F, BitVec.toNat_ofNat]
  omega

theorem bitRow_iff : w &&& 0xF808#16 = 0xF808#16 ↔ field w 15 12 = 15 ∧ field w 11 11 = 1 ∧ field w 3 3 = 1 := by
  have hhi := field_upper w 15 12 11 (by decide) (by decide)
  have hbit := field_lower w 15 11 11 (by decide)
  have hlt := field_lt w 3 3
  rw [← BitVec.toNat_inj, and_F808, BitVec.toNat_ofNat]
  omega

/-- Settles O3: each row of the table is the rejecting rows of one group. -/
theorem illegalWords : Obligations.IllegalWords := by
  intro c w w1
  rw [decodeWords_illegal_iff, decodeGroup0_illegal_iff, decodeGroup9_illegal_iff, decodeLoads_illegal_iff,
    decodeStores_illegal_iff, decodeOneOperand_illegal_iff, decodeGroup15_illegal_iff, nopMask_iff, loadRow_iff,
    storeRow_iff, unusedRow_iff, impliedRow_iff, indirectRow_iff, desRow_iff, bitRow_iff]
  simp only [and_or_left, and_assoc, or_assoc]

end Sys2Proof
end

section
/-! Carries, borrows and overflow. The rules give them as formulas over one bit of the operands and of the result
(40_arithmetic_logic.md R160, R161); each is an order fact about the numbers, said here once for every width. -/

namespace Sys2Proof.Machine

variable {w : Nat}

/-- `r` is the sum of `a`, `b` and the carry `c`, at the width of the operands. A difference is read backwards: the minuend
is the sum of the difference, the subtrahend and the borrow. -/
def IsSum (a b : BitVec w) (c : Bool) (r : BitVec w) : Prop := r = a + b + (BitVec.ofBool c).setWidth w

theorem carryNat_eq_toNat (c : Bool) : carryNat c = c.toNat := by cases c <;> rfl

@[simp] theorem carryNat_false : carryNat false = 0 := rfl

theorem carryNat_le_one (c : Bool) : carryNat c ≤ 1 := by cases c <;> decide

theorem carryIn_eq_setWidth (c : Bool) : carryIn c = (BitVec.ofBool c).setWidth 8 := by cases c <;> rfl

theorem isSum_add_carryIn (a b : Byte) (c : Bool) : IsSum a b c (a + b + carryIn c) := by
  rw [carryIn_eq_setWidth, IsSum]

theorem isSum_sub_carryIn (a b : Byte) (c : Bool) : IsSum (a - b - carryIn c) b c a := by
  rw [carryIn_eq_setWidth, IsSum]
  ring

theorem isSum_add (a b : BitVec w) : IsSum a b false (a + b) := by simp [IsSum]

theorem isSum_sub (a b : BitVec w) : IsSum (a - b) b false a := by simp [IsSum]

theorem IsSum.toNat {a b r : BitVec w} {c : Bool} (h : IsSum a b c r) :
    r.toNat = (a.toNat + b.toNat + carryNat c) % 2 ^ w := by
  rw [h, carryNat_eq_toNat]
  simp

/-- The sum as numbers: with or without a carry out of the top bit. -/
theorem IsSum.toNat_cases {a b r : BitVec w} {c : Bool} (h : IsSum a b c r) :
    a.toNat + b.toNat + carryNat c = r.toNat ∨ a.toNat + b.toNat + carryNat c = r.toNat + 2 ^ w := by
  have ha := a.isLt
  have hb := b.isLt
  have hc := carryNat_le_one c
  rw [h.toNat]
  rcases Nat.lt_or_ge (a.toNat + b.toNat + carryNat c) (2 ^ w) with hfit | hwrap
  · exact .inl (Nat.mod_eq_of_lt hfit).symm
  · rw [Nat.mod_eq_sub_mod hwrap, Nat.mod_eq_of_lt (by omega)]
    omega

/-- The carry formula at bit `i` is the carry out of the low `i + 1` bits (40_arithmetic_logic.md R160). -/
theorem IsSum.carry_eq {a b r : BitVec w} {c : Bool} (h : IsSum a b c r) {i : Nat} (hi : i < w) :
    ((a.getLsbD i && b.getLsbD i) || (b.getLsbD i && !r.getLsbD i) || (!r.getLsbD i && a.getLsbD i)) =
      decide (2 ^ (i + 1) ≤ a.toNat % 2 ^ (i + 1) + b.toNat % 2 ^ (i + 1) + carryNat c) := by
  have hcarry : decide (2 ^ (i + 1) ≤ a.toNat % 2 ^ (i + 1) + b.toNat % 2 ^ (i + 1) + carryNat c) =
      BitVec.carry (i + 1) a b c := by rw [carryNat_eq_toNat]; rfl
  have hbit := BitVec.getLsbD_add_add_bool hi a b c
  rw [hcarry, BitVec.carry_succ, h, hbit]
  generalize a.getLsbD i = x
  generalize b.getLsbD i = y
  generalize BitVec.carry i a b c = k
  revert x y k
  decide

/-- The low bits of a sum, as numbers. -/
theorem IsSum.toNat_mod {a b r : BitVec w} {c : Bool} (h : IsSum a b c r) {i : Nat} (hi : i ≤ w) :
    r.toNat % 2 ^ i = (a.toNat % 2 ^ i + b.toNat % 2 ^ i + carryNat c) % 2 ^ i := by
  rw [h.toNat, Nat.mod_mod_of_dvd _ (pow_dvd_pow 2 hi)]
  simp [Nat.add_mod]

/-- The borrow formula at bit `i` is the borrow out of the low `i + 1` bits (40_arithmetic_logic.md R161): it is the
carry formula of the sum that gives `a` back. -/
theorem IsSum.borrow_eq {a b r : BitVec w} {c : Bool} (h : IsSum r b c a) {i : Nat} (hi : i < w) :
    ((!a.getLsbD i && b.getLsbD i) || (b.getLsbD i && r.getLsbD i) || (r.getLsbD i && !a.getLsbD i)) =
      decide (a.toNat % 2 ^ (i + 1) < b.toNat % 2 ^ (i + 1) + carryNat c) := by
  have hformula : ((!a.getLsbD i && b.getLsbD i) || (b.getLsbD i && r.getLsbD i) || (r.getLsbD i && !a.getLsbD i)) =
      ((r.getLsbD i && b.getLsbD i) || (b.getLsbD i && !a.getLsbD i) || (!a.getLsbD i && r.getLsbD i)) := by
    ac_rfl
  have hc := carryNat_le_one c
  have hr : r.toNat % 2 ^ (i + 1) < 2 ^ (i + 1) := Nat.mod_lt _ (by positivity)
  have hb : b.toNat % 2 ^ (i + 1) < 2 ^ (i + 1) := Nat.mod_lt _ (by positivity)
  rw [hformula, h.carry_eq hi, h.toNat_mod hi, decide_eq_decide]
  generalize r.toNat % 2 ^ (i + 1) = x at *
  generalize b.toNat % 2 ^ (i + 1) = y at *
  rcases Nat.lt_or_ge (x + y + carryNat c) (2 ^ (i + 1)) with hfit | hwrap
  · rw [Nat.mod_eq_of_lt hfit]
    omega
  · rw [Nat.mod_eq_sub_mod hwrap, Nat.mod_eq_of_lt (by omega)]
    omega

/-! ### Overflow in two's complement -/

/-- The top bit is the sign. -/
theorem getLsbD_top_eq (x : BitVec (w + 1)) : x.getLsbD w = decide (2 ^ w ≤ x.toNat) := BitVec.getLsbD_last x

theorem toInt_eq_ite_top (x : BitVec (w + 1)) :
    x.toInt = if 2 ^ w ≤ x.toNat then (x.toNat : Int) - 2 * (2 ^ w : Nat) else x.toNat := by
  rw [BitVec.toInt_eq_toNat_cond]
  split <;> split <;> omega

/-- The overflow formula of an addition: the exact signed sum does not fit (40_arithmetic_logic.md R160). -/
theorem IsSum.overflow_eq {a b r : BitVec (w + 1)} {c : Bool} (h : IsSum a b c r) :
    ((a.getLsbD w && b.getLsbD w && !r.getLsbD w) || (!a.getLsbD w && !b.getLsbD w && r.getLsbD w)) =
      decide (a.toInt + b.toInt + carryNat c < -(2 ^ w : Nat) ∨ (2 ^ w : Nat) ≤ a.toInt + b.toInt + carryNat c) := by
  have ha := a.isLt
  have hb := b.isLt
  have hc := carryNat_le_one c
  have hsum := h.toNat_cases
  simp only [getLsbD_top_eq, toInt_eq_ite_top, ← decide_not, ← Bool.decide_and, ← Bool.decide_or, decide_eq_decide]
  split <;> split <;> omega

/-- The overflow formula of a subtraction: the exact signed difference does not fit (40_arithmetic_logic.md R161). -/
theorem IsSum.overflow_sub_eq {a b r : BitVec (w + 1)} {c : Bool} (h : IsSum r b c a) :
    ((a.getLsbD w && !b.getLsbD w && !r.getLsbD w) || (!a.getLsbD w && b.getLsbD w && r.getLsbD w)) =
      decide (a.toInt - b.toInt - carryNat c < -(2 ^ w : Nat) ∨ (2 ^ w : Nat) ≤ a.toInt - b.toInt - carryNat c) := by
  have hr := r.isLt
  have hb := b.isLt
  have hc := carryNat_le_one c
  have hsum := h.toNat_cases
  simp only [getLsbD_top_eq, toInt_eq_ite_top, ← decide_not, ← Bool.decide_and, ← Bool.decide_or, decide_eq_decide]
  split <;> split <;> omega

end Sys2Proof.Machine
end

section
/-! What the register forms leave where their registers exist: the result, the flags, and nothing else. -/

namespace Sys2Proof.Machine

/-! ### Frames -/

theorem RegisterFrame.refl (s : State) : RegisterFrame [] s s :=
  ⟨fun _ _ => rfl, ⟨rfl, rfl, rfl, rfl, rfl⟩, ⟨rfl, rfl, rfl⟩, rfl, fun _ => rfl, fun _ => rfl, rfl⟩

theorem RegisterFrame.trans {ds es : List Reg} {s t u : State} (h : RegisterFrame ds s t) (k : RegisterFrame es t u) :
    RegisterFrame (ds ++ es) s u := by
  obtain ⟨hregs, ⟨hx, hy, hz, hd, he⟩, ⟨hcfg, hmode, hirq⟩, hsp, hsram, hflash, henv⟩ := h
  obtain ⟨kregs, ⟨kx, ky, kz, kd, ke⟩, ⟨kcfg, kmode, kirq⟩, ksp, ksram, kflash, kenv⟩ := k
  refine ⟨fun i hi => ?_, ⟨kx.trans hx, ky.trans hy, kz.trans hz, kd.trans hd, ke.trans he⟩,
    ⟨kcfg.trans hcfg, kmode.trans hmode, kirq.trans hirq⟩, ksp.trans hsp, fun a => (ksram a).trans (hsram a),
    fun b => (kflash b).trans (hflash b), kenv.trans henv⟩
  rw [List.mem_append, not_or] at hi
  obtain ⟨hds, hes⟩ := hi
  exact (kregs i hes).trans (hregs i hds)

theorem RegisterFrame.reg_of_ne {d i : Reg} {s t : State} (h : RegisterFrame [d] s t) (hi : i ≠ d) :
    t.reg i = s.reg i := by
  obtain ⟨hregs, -⟩ := h
  exact hregs i (List.not_mem_cons_of_ne_of_not_mem hi List.not_mem_nil)

theorem RegisterFrame.hasReg {ds : List Reg} {s t : State} (h : RegisterFrame ds s t) (i : Reg) :
    t.hasReg i = s.hasReg i := by
  obtain ⟨-, -, ⟨hcfg, -⟩, -⟩ := h
  rw [State.hasReg, State.hasReg, hcfg]

/-! ### The operand forms -/

/-- What an instruction of one word leaves that gives Rd the value `v` and the status the value `f`. -/
structure Writes (d : Reg) (v : Byte) (f : Sreg) (s t : State) : Prop where
  reg : t.reg d = v
  sreg : t.sreg = f
  frame : RegisterFrame [d] s t
  pc : PcAdvanced 1 s t

/-- What an instruction of one word leaves that gives the pair of `d` the value `v` and the status the value `f`. -/
structure WritesPair (d : Reg) (v : Word) (f : Sreg) (s t : State) : Prop where
  pair : pairValue t d = v
  sreg : t.sreg = f
  frame : RegisterFrame [d, d + 1] s t
  pc : PcAdvanced 1 s t

/-- What an instruction of one word leaves that gives the status the value `f` and writes no register. -/
structure WritesFlags (f : Sreg) (s t : State) : Prop where
  sreg : t.sreg = f
  frame : RegisterFrame [] s t
  pc : PcAdvanced 1 s t

theorem State.writes_setReg (s : State) (d : Reg) (v : Byte) (f : Sreg) :
    Writes d v f s (((s.setSreg f).setReg d v).advance 1) where
  reg := State.setReg_reg_self _ d v
  sreg := rfl
  frame := State.setReg_frame (s.setSreg f) d v
  pc := State.advance_pcAdvanced s 1

theorem State.twoReg_writes {s : State} {d r : Reg} (f : Byte → Byte → Byte × Sreg) (hd : s.hasReg d = true)
    (hr : s.hasReg r = true) :
    ∃ t, finish (s.twoReg d r f) = .next t ∧ Writes d (f (s.reg d) (s.reg r)).1 (f (s.reg d) (s.reg r)).2 s t :=
  ⟨_, finish_next.2 (State.twoReg_eq f hd hr), State.writes_setReg s d _ _⟩

theorem State.oneReg_writes {s : State} {d : Reg} (f : Byte → Byte × Sreg) (hd : s.hasReg d = true) :
    ∃ t, finish (s.oneReg d f) = .next t ∧ Writes d (f (s.reg d)).1 (f (s.reg d)).2 s t :=
  ⟨_, finish_next.2 (State.oneReg_eq f hd), State.writes_setReg s d _ _⟩

theorem State.writesFlags_setSreg (s : State) (f : Sreg) : WritesFlags f s ((s.setSreg f).advance 1) where
  sreg := rfl
  frame := RegisterFrame.refl s
  pc := State.advance_pcAdvanced s 1

theorem State.testTwo_writesFlags {s : State} {d r : Reg} (f : Byte → Byte → Sreg) (hd : s.hasReg d = true)
    (hr : s.hasReg r = true) :
    ∃ t, finish (s.testTwo d r f) = .next t ∧ WritesFlags (f (s.reg d) (s.reg r)) s t :=
  ⟨_, finish_next.2 (State.testTwo_eq f hd hr), State.writesFlags_setSreg s _⟩

theorem State.testOne_writesFlags {s : State} {d : Reg} (f : Byte → Sreg) (hd : s.hasReg d = true) :
    ∃ t, finish (s.testOne d f) = .next t ∧ WritesFlags (f (s.reg d)) s t :=
  ⟨_, finish_next.2 (State.testOne_eq f hd), State.writesFlags_setSreg s _⟩

/-- The two registers of a pair differ (00_scope.md R10). -/
theorem Reg.ne_add_one (d : Reg) : d ≠ d + 1 := by
  revert d
  decide

theorem State.writesPair_setReg (s : State) (d : Reg) (v : Word) (f : Sreg) :
    WritesPair d v f s
      ((((s.setSreg f).setReg d (v.extractLsb' 0 8)).setReg (d + 1) (v.extractLsb' 8 8)).advance 1) where
  pair := by
    rw [pairValue, State.advance_reg, State.advance_reg, State.setReg_reg_self,
      State.setReg_reg_of_ne _ _ (Reg.ne_add_one d), State.setReg_reg_self]
    exact BitVec.extractLsb'_append_extractLsb' (w := 8) (len := 8)
  sreg := rfl
  frame := (State.setReg_frame (s.setSreg f) d _).trans (State.setReg_frame _ (d + 1) _)
  pc := State.advance_pcAdvanced s 1

theorem State.wordReg_writesPair {s : State} {d : Reg} (f : Word → Word × Sreg) (h0 : s.hasReg d = true)
    (h1 : s.hasReg (d + 1) = true) :
    ∃ t, finish (s.wordReg d f) = .next t ∧ WritesPair d (f (pairValue s d)).1 (f (pairValue s d)).2 s t :=
  ⟨_, finish_next.2 (State.wordReg_eq f h0 h1), State.writesPair_setReg s d _ _⟩

end Sys2Proof.Machine
end

section
/-! The flag computations of Machine/Flags.lean as arithmetic on their operands. -/

namespace Sys2Proof.Machine

/-- N is the top bit of the result. -/
theorem Byte.getLsbD_seven (r : Byte) : r.getLsbD 7 = decide (128 ≤ r.toNat) := BitVec.getLsbD_last r

theorem Word.getLsbD_fifteen (r : Word) : r.getLsbD 15 = decide (32768 ≤ r.toNat) := BitVec.getLsbD_last r

theorem overflows_eq (x : Int) : overflows x = decide (x < -(2 ^ 7 : Nat) ∨ (2 ^ 7 : Nat) ≤ x) :=
  decide_eq_decide.2 (by omega)

theorem Byte.toNat_mod (a : Byte) : a.toNat % 2 ^ (7 + 1) = a.toNat := Nat.mod_eq_of_lt a.isLt

theorem flagsOfAdd_addFlags (f : Sreg) (a b : Byte) (c : Bool) :
    FlagsOfAdd f (addFlags f a b c).2 a b c (addFlags f a b c).1 := by
  have hsum : IsSum a b c (addFlags f a b c).1 := isSum_add_carryIn a b c
  have hcarry := hsum.carry_eq (i := 7) (by decide)
  rw [Byte.toNat_mod, Byte.toNat_mod] at hcarry
  exact ⟨hsum.toNat, hcarry, hsum.carry_eq (i := 3) (by decide), hsum.overflow_eq.trans (overflows_eq _).symm,
    Byte.getLsbD_seven _, rfl, rfl, rfl, rfl⟩

theorem flagsOfSub_subFlags (f : Sreg) (a b : Byte) (c keepZ : Bool) :
    FlagsOfSub f (subFlags f a b c keepZ).2 a b c keepZ (subFlags f a b c keepZ).1 := by
  have hsum : IsSum (subFlags f a b c keepZ).1 b c a := isSum_sub_carryIn a b c
  have hborrow := hsum.borrow_eq (i := 7) (by decide)
  rw [Byte.toNat_mod, Byte.toNat_mod] at hborrow
  have hresult := hsum.toNat_cases
  refine ⟨by omega, hborrow, hsum.borrow_eq (i := 3) (by decide), hsum.overflow_sub_eq.trans (overflows_eq _).symm,
    Byte.getLsbD_seven _, ?_, rfl, rfl, rfl⟩
  cases keepZ <;> simp [subFlags, Sreg.withSign]

theorem flagsOfLogic_logicFlags (f : Sreg) (r : Byte) : FlagsOfLogic f (logicFlags f r) r :=
  ⟨rfl, Byte.getLsbD_seven r, (Bool.xor_false _).trans (Byte.getLsbD_seven r), rfl, rfl, rfl, rfl, rfl⟩

end Sys2Proof.Machine
end

section
/-! Addition, subtraction and comparison of bytes, and the 16-bit arithmetic their carry makes. -/

namespace Sys2Proof.Machine

/-- Settles O8: both forms are `addFlags` on the operands, with and without the old carry. -/
theorem addForms : Obligations.AddForms := by
  intro d r s hd hr
  have form (c : Bool) : ∃ t, finish (s.twoReg d r fun a b => addFlags s.sreg a b c) = .next t ∧
      FlagsOfAdd s.sreg t.sreg (s.reg d) (s.reg r) c (t.reg d) ∧ RegisterFrame [d] s t := by
    obtain ⟨t, ht, hreg, hsreg, hframe, -⟩ := State.twoReg_writes (fun a b => addFlags s.sreg a b c) hd hr
    exact ⟨t, ht, by rw [hreg, hsreg]; exact flagsOfAdd_addFlags .., hframe⟩
  exact ⟨form false, form s.sreg.c⟩

/-- Settles O9: the four forms are `subFlags` on the operands, with a register or a constant, with and without the
borrow. -/
theorem subForms : Obligations.SubForms := by
  intro d r K s hd hr
  have register (c keepZ : Bool) : ∃ t, finish (s.twoReg d r fun a b => subFlags s.sreg a b c keepZ) = .next t ∧
      FlagsOfSub s.sreg t.sreg (s.reg d) (s.reg r) c keepZ (t.reg d) ∧ RegisterFrame [d] s t := by
    obtain ⟨t, ht, hreg, hsreg, hframe, -⟩ := State.twoReg_writes (fun a b => subFlags s.sreg a b c keepZ) hd hr
    exact ⟨t, ht, by rw [hreg, hsreg]; exact flagsOfSub_subFlags .., hframe⟩
  have constant (c keepZ : Bool) : ∃ t, finish (s.oneReg d fun a => subFlags s.sreg a K c keepZ) = .next t ∧
      FlagsOfSub s.sreg t.sreg (s.reg d) K c keepZ (t.reg d) ∧ RegisterFrame [d] s t := by
    obtain ⟨t, ht, hreg, hsreg, hframe, -⟩ := State.oneReg_writes (fun a => subFlags s.sreg a K c keepZ) hd
    exact ⟨t, ht, by rw [hreg, hsreg]; exact flagsOfSub_subFlags .., hframe⟩
  exact ⟨register false false, constant false false, register s.sreg.c true, constant s.sreg.c true⟩

/-- Settles O10: the compares are `subFlags` with the difference dropped. -/
theorem compareForms : Obligations.CompareForms := by
  intro d r K s hd hr
  have register (c keepZ : Bool) :
      ∃ t v, finish (s.testTwo d r fun a b => (subFlags s.sreg a b c keepZ).2) = .next t ∧
        FlagsOfSub s.sreg t.sreg (s.reg d) (s.reg r) c keepZ v ∧ RegisterFrame [] s t := by
    obtain ⟨t, ht, hsreg, hframe, -⟩ :=
      State.testTwo_writesFlags (fun a b => (subFlags s.sreg a b c keepZ).2) hd hr
    exact ⟨t, _, ht, by rw [hsreg]; exact flagsOfSub_subFlags .., hframe⟩
  obtain ⟨t, ht, hsreg, hframe, -⟩ := State.testOne_writesFlags (fun a => (subFlags s.sreg a K false false).2) hd
  exact ⟨register false false, register s.sreg.c true, t, _, ht, by rw [hsreg]; exact flagsOfSub_subFlags .., hframe⟩

theorem toNat_append_byte (h l : Byte) : (h ++ l : Word).toNat = h.toNat * 256 + l.toNat := by
  rw [BitVec.toNat_append, ← Nat.shiftLeft_add_eq_or_of_lt l.isLt, Nat.shiftLeft_eq]

/-- The carry out of the low bytes into the high bytes makes one 16-bit sum. -/
theorem wordSum_of_bytes {ah al bh bl rh rl : Byte} {c : Bool} (hc : c = decide (256 ≤ al.toNat + bl.toNat))
    (hl : rl.toNat = (al.toNat + bl.toNat) % 256) (hh : rh.toNat = (ah.toNat + bh.toNat + carryNat c) % 256) :
    rh ++ rl = (ah ++ al : Word) + (bh ++ bl : Word) ∧
      (256 ≤ ah.toNat + bh.toNat + carryNat c ↔ 65536 ≤ (ah ++ al : Word).toNat + (bh ++ bl : Word).toNat) := by
  have hcarry : carryNat c = (al.toNat + bl.toNat) / 256 := by
    have := al.isLt
    have := bl.isLt
    simp only [hc, carryNat, decide_eq_true_eq]
    split <;> omega
  refine ⟨BitVec.eq_of_toNat_eq ?_, ?_⟩
  · rw [BitVec.toNat_add, toNat_append_byte, toNat_append_byte, toNat_append_byte]
    omega
  · rw [toNat_append_byte, toNat_append_byte]
    omega

/-- The borrow out of the low bytes into the high bytes makes one 16-bit difference. -/
theorem wordDifference_of_bytes {ah al bh bl rh rl : Byte} {c : Bool} (hc : c = decide (al.toNat < bl.toNat))
    (hl : (rl.toNat : Int) = ((al.toNat : Int) - bl.toNat) % 256)
    (hh : (rh.toNat : Int) = ((ah.toNat : Int) - bh.toNat - carryNat c) % 256) :
    rh ++ rl = (ah ++ al : Word) - (bh ++ bl : Word) ∧
      (ah.toNat < bh.toNat + carryNat c ↔ (ah ++ al : Word).toNat < (bh ++ bl : Word).toNat) ∧
      (rh = 0#8 ∧ rl = 0#8 ↔ (ah ++ al : Word) = (bh ++ bl : Word)) := by
  have := al.isLt
  have := bl.isLt
  have := ah.isLt
  have := bh.isLt
  have hcarry : carryNat c = if al.toNat < bl.toNat then 1 else 0 := by simp only [hc, carryNat, decide_eq_true_eq]
  rw [hcarry] at hh ⊢
  refine ⟨BitVec.eq_of_toNat_eq ?_, ?_, ?_⟩
  · rw [BitVec.toNat_sub, toNat_append_byte, toNat_append_byte, toNat_append_byte]
    split at hh <;> omega
  · rw [toNat_append_byte, toNat_append_byte]
    split <;> omega
  · simp only [← BitVec.toNat_inj, toNat_append_byte, BitVec.toNat_ofNat]
    split at hh <;> omega

/-- Settles O17: the second instruction finds the first one's carry, and the operands of the high byte as they were. -/
theorem wordArithmeticFromBytes : Obligations.WordArithmeticFromBytes := by
  intro dl dh rl rh s hdl hdh hrl hrh hd hr
  constructor
  · obtain ⟨⟨t, ht, ⟨hlow, hcarry, -⟩, tframe⟩, -⟩ := addForms dl rl s hdl hrl
    obtain ⟨-, u, hu, ⟨hhigh, hout, -⟩, uframe⟩ :=
      addForms dh rh t ((tframe.hasReg dh).trans hdh) ((tframe.hasReg rh).trans hrh)
    rw [tframe.reg_of_ne hd.symm, tframe.reg_of_ne hr] at hhigh hout
    obtain ⟨hsum, hiff⟩ := wordSum_of_bytes hcarry hlow hhigh
    exact ⟨t, u, ht, hu, by rw [uframe.reg_of_ne hd]; exact hsum, hout.trans (decide_eq_decide.2 hiff)⟩
  · obtain ⟨⟨t, ht, ⟨hlow, hborrow, -, -, -, hzlow, -⟩, tframe⟩, -⟩ := subForms dl rl 0#8 s hdl hrl
    obtain ⟨-, -, ⟨u, hu, ⟨hhigh, hout, -, -, -, hzhigh, -⟩, uframe⟩, -⟩ :=
      subForms dh rh 0#8 t ((tframe.hasReg dh).trans hdh) ((tframe.hasReg rh).trans hrh)
    rw [tframe.reg_of_ne hd.symm, tframe.reg_of_ne hr] at hhigh hout
    obtain ⟨hdifference, hlt, hzero⟩ := wordDifference_of_bytes hborrow (by simpa using hlow) hhigh
    refine ⟨t, u, ht, hu, by rw [uframe.reg_of_ne hd]; exact hdifference, hout.trans (decide_eq_decide.2 hlt), ?_⟩
    simp [hzhigh, hzlow, ← hzero]

end Sys2Proof.Machine
end

section
/-! Logic operations, the operations on one register, and the word forms with a constant. -/

namespace Sys2Proof.Machine

/-! ### Logic -/

/-- The answer `o` of a logic instruction with result `v` in Rd. -/
def LogicAnswers (d : Reg) (v : Byte) (s : State) (o : StepOutcome) : Prop :=
  ∃ t, o = .next t ∧ t.reg d = v ∧ FlagsOfLogic s.sreg t.sreg v ∧ RegisterFrame [d] s t

theorem Writes.logicAnswers {s t : State} {d : Reg} {v : Byte} (h : Writes d v (logicFlags s.sreg v) s t) :
    LogicAnswers d v s (.next t) := by
  obtain ⟨hreg, hsreg, hframe, -⟩ := h
  exact ⟨t, rfl, hreg, hsreg ▸ flagsOfLogic_logicFlags s.sreg v, hframe⟩

theorem State.twoReg_logicAnswers {s : State} {d r : Reg} (op : Byte → Byte → Byte) (hd : s.hasReg d = true)
    (hr : s.hasReg r = true) :
    LogicAnswers d (op (s.reg d) (s.reg r)) s
      (finish (s.twoReg d r fun a b => (op a b, logicFlags s.sreg (op a b)))) := by
  obtain ⟨t, ht, hwrites⟩ := State.twoReg_writes (fun a b => (op a b, logicFlags s.sreg (op a b))) hd hr
  exact ht ▸ hwrites.logicAnswers

theorem State.oneReg_logicAnswers {s : State} {d : Reg} (op : Byte → Byte) (hd : s.hasReg d = true) :
    LogicAnswers d (op (s.reg d)) s (finish (s.oneReg d fun a => (op a, logicFlags s.sreg (op a)))) := by
  obtain ⟨t, ht, hwrites⟩ := State.oneReg_writes (fun a => (op a, logicFlags s.sreg (op a))) hd
  exact ht ▸ hwrites.logicAnswers

theorem exec_tst_logicAnswers {s : State} {d : Reg} (hd : s.hasReg d = true) :
    LogicAnswers d (s.reg d) s (exec (.tst d) s) := by
  have h := State.oneReg_logicAnswers (fun a => a &&& a) hd
  rwa [BitVec.and_self] at h

/-- CLR is EOR of a register with itself. -/
theorem exec_clr_logicAnswers {s : State} {d : Reg} (hd : s.hasReg d = true) :
    LogicAnswers d 0x00#8 s (exec (.clr d) s) := by
  have h := State.twoReg_logicAnswers (fun a b => a ^^^ b) hd hd
  rw [BitVec.xor_self] at h
  exact exec_clr_eq d s ▸ h

/-- Settles O12: each form is a bitwise operation with the flags of its result. -/
theorem logicForms : Obligations.LogicForms := by
  intro d r K s hd hr
  have register (op : Byte → Byte → Byte) := State.twoReg_logicAnswers op hd hr
  have constant (op : Byte → Byte) := State.oneReg_logicAnswers op hd
  simp only [List.forall_mem_cons, List.not_mem_nil, false_implies, implies_true, and_true]
  exact ⟨register (· &&& ·), constant (· &&& K), register (· ||| ·), constant (· ||| K), register (· ^^^ ·),
    constant (· ||| K), constant (· &&& (0xFF#8 - K)), exec_tst_logicAnswers hd, exec_clr_logicAnswers hd⟩

/-! ### ADIW and SBIW -/

/-- The pairs of ADIW and SBIW exist on every version (10_state.md R42). -/
theorem State.hasReg_of_isWordPair {s : State} {d : Reg} (h : d.isWordPair = true) :
    s.hasReg d = true ∧ s.hasReg (d + 1) = true := by
  have high : ∀ e : Reg, e.isWordPair = true → 16 ≤ e.val ∧ 16 ≤ (e + 1).val := by decide
  obtain ⟨hlow, hnext⟩ := high d h
  simp [State.hasReg, hlow, hnext]

theorem Word.getLsbD_fifteen_setWidth (K : BitVec 6) : (K.setWidth 16).getLsbD 15 = false := by simp

theorem Word.toNat_setWidth_six (K : BitVec 6) : (K.setWidth 16).toNat = K.toNat := by
  rw [BitVec.toNat_setWidth]
  omega

theorem Word.toInt_setWidth_six (K : BitVec 6) : (K.setWidth 16).toInt = K.toNat := by
  have := K.isLt
  rw [BitVec.toInt_eq_toNat_of_lt (by rw [Word.toNat_setWidth_six]; omega), Word.toNat_setWidth_six]

theorem flagsOfWord_addWordFlags (f : Sreg) (p : Word) (K : BitVec 6) :
    FlagsOfWord f (addWordFlags f p K).2 (p.toNat + K.toNat) (p.toInt + K.toNat) (addWordFlags f p K).1 := by
  have hsum : IsSum p (K.setWidth 16) false (addWordFlags f p K).1 := isSum_add p _
  have hresult := hsum.toNat
  have hcarry := hsum.carry_eq (i := 15) (by decide)
  have hoverflow := hsum.overflow_eq
  have hp := p.isLt
  simp only [Word.getLsbD_fifteen_setWidth, Word.toNat_setWidth_six, Word.toInt_setWidth_six, carryNat_false,
    Bool.and_false, Bool.false_and, Bool.false_or, Bool.not_false, Bool.and_true] at hresult hcarry hoverflow
  exact ⟨by omega, hcarry.trans (decide_eq_decide.2 (by omega)), hoverflow.trans (decide_eq_decide.2 (by omega)),
    Word.getLsbD_fifteen _, rfl, rfl, rfl, rfl, rfl⟩

theorem flagsOfWord_subWordFlags (f : Sreg) (p : Word) (K : BitVec 6) :
    FlagsOfWord f (subWordFlags f p K).2 (p.toNat - K.toNat) (p.toInt - K.toNat) (subWordFlags f p K).1 := by
  have hsum : IsSum (subWordFlags f p K).1 (K.setWidth 16) false p := isSum_sub p _
  have hresult := hsum.toNat_cases
  have hborrow := hsum.borrow_eq (i := 15) (by decide)
  have hoverflow := hsum.overflow_sub_eq
  have hp := p.isLt
  have hr := (subWordFlags f p K).1.isLt
  simp only [Word.getLsbD_fifteen_setWidth, Word.toNat_setWidth_six, Word.toInt_setWidth_six, carryNat_false,
    Bool.and_false, Bool.false_and, Bool.false_or, Bool.or_false, Bool.not_false,
    Bool.and_true] at hresult hborrow hoverflow
  exact ⟨by omega, hborrow.trans (decide_eq_decide.2 (by omega)),
    (Bool.and_comm _ _).trans (hoverflow.trans (decide_eq_decide.2 (by omega))),
    Word.getLsbD_fifteen _, rfl, rfl, rfl, rfl, rfl⟩

/-- Settles O11: the pair gets the exact result at 16 bits, the flags say where it does not fit. -/
theorem wordImmediateForms : Obligations.WordImmediateForms := by
  intro d K s hpair
  obtain ⟨hlow, hhigh⟩ := State.hasReg_of_isWordPair (s := s) hpair
  constructor
  · obtain ⟨t, ht, hvalue, hsreg, hframe, hpc⟩ := State.wordReg_writesPair (fun p => addWordFlags s.sreg p K) hlow hhigh
    exact ⟨t, ht, by rw [hvalue, hsreg]; exact flagsOfWord_addWordFlags .., hframe, hpc⟩
  · obtain ⟨t, ht, hvalue, hsreg, hframe, hpc⟩ := State.wordReg_writesPair (fun p => subWordFlags s.sreg p K) hlow hhigh
    exact ⟨t, ht, by rw [hvalue, hsreg]; exact flagsOfWord_subWordFlags .., hframe, hpc⟩

/-! ### COM, NEG, INC and DEC -/

/-- A negation overflows from 0x80 alone (40_arithmetic_logic.md R177). -/
theorem decide_neg_eq_min (a : Byte) : decide (0x00#8 - a = 0x80#8) = (a.getLsbD 7 && (0x00#8 - a).getLsbD 7) := by
  have ha := a.isLt
  simp only [Byte.getLsbD_seven, ← Bool.decide_and, decide_eq_decide, ← BitVec.toNat_inj, BitVec.toNat_sub,
    BitVec.toNat_ofNat]
  omega

/-- A negation borrows from everything but zero (40_arithmetic_logic.md R177). -/
theorem decide_neg_ne_zero (a : Byte) :
    decide (0x00#8 - a ≠ 0x00#8) = (a.getLsbD 7 || (0x00#8 - a).getLsbD 7) := by
  have ha := a.isLt
  simp only [Byte.getLsbD_seven, ← Bool.decide_or, decide_eq_decide, ne_eq, ← BitVec.toNat_inj, BitVec.toNat_sub,
    BitVec.toNat_ofNat]
  omega

/-- The borrow formula where the minuend is zero, `x` and `y` being bits of the subtrahend and of the difference. -/
theorem borrow_from_zero (x y : Bool) : ((!false && x) || (x && y) || (y && !false)) = (y || x) := by
  cases x <;> cases y <;> rfl

/-- The overflow formula where the minuend is zero. -/
theorem overflow_from_zero (x y : Bool) : ((false && !x && !y) || (!false && x && y)) = (x && y) := by
  cases x <;> cases y <;> rfl

/-- NEG is the subtraction from zero (40_arithmetic_logic.md R161, R177). -/
theorem subFlags_zero_left (f : Sreg) (a : Byte) :
    subFlags f 0x00#8 a false false = (0x00#8 - a, negFlags f a (0x00#8 - a)) := by
  have hresult : 0x00#8 - a - carryIn false = 0x00#8 - a := BitVec.sub_zero _
  simp only [subFlags, negFlags, hresult, BitVec.getLsbD_zero, borrow_from_zero, overflow_from_zero,
    decide_neg_eq_min, decide_neg_ne_zero, Bool.or_comm (a.getLsbD 7), Bool.false_eq_true, if_false]

theorem flagsOfSub_negFlags (f : Sreg) (a : Byte) :
    FlagsOfSub f (negFlags f a (0x00#8 - a)) 0x00#8 a false false (0x00#8 - a) := by
  have h := flagsOfSub_subFlags f 0x00#8 a false false
  rwa [subFlags_zero_left] at h

/-- INC overflows from 0x7F alone, into 0x80 (40_arithmetic_logic.md R180). -/
theorem overflows_inc (a : Byte) : decide (a + 1#8 = 0x80#8) = overflows (a.toInt + 1) := by
  have ha := a.isLt
  rw [overflows, BitVec.toInt_eq_toNat_cond, decide_eq_decide, ← BitVec.toNat_inj, BitVec.toNat_add]
  simp only [BitVec.toNat_ofNat]
  split <;> omega

/-- DEC overflows from 0x80 alone, into 0x7F (40_arithmetic_logic.md R181). -/
theorem overflows_dec (a : Byte) : decide (a - 1#8 = 0x7F#8) = overflows (a.toInt - 1) := by
  have ha := a.isLt
  rw [overflows, BitVec.toInt_eq_toNat_cond, decide_eq_decide, ← BitVec.toNat_inj, BitVec.toNat_sub]
  simp only [BitVec.toNat_ofNat]
  split <;> omega

theorem flagsOfCount_incFlags (f : Sreg) (a : Byte) : FlagsOfCount f (incFlags f (a + 1#8)) (a.toInt + 1) (a + 1#8) :=
  ⟨overflows_inc a, Byte.getLsbD_seven _, rfl, rfl, rfl, rfl, rfl, rfl⟩

theorem flagsOfCount_decFlags (f : Sreg) (a : Byte) : FlagsOfCount f (decFlags f (a - 1#8)) (a.toInt - 1) (a - 1#8) :=
  ⟨overflows_dec a, Byte.getLsbD_seven _, rfl, rfl, rfl, rfl, rfl, rfl⟩

/-- Settles O13: NEG is the subtraction from zero, INC and DEC count by one, COM takes the complement. -/
theorem comNegIncDec : Obligations.ComNegIncDec := by
  intro d s hd
  refine ⟨?com, ?neg, ?inc, ?dec⟩
  case com =>
    obtain ⟨t, ht, hreg, hsreg, hframe, hpc⟩ :=
      State.oneReg_writes (fun a => (0xFF#8 - a, comFlags s.sreg (0xFF#8 - a))) hd
    have hvalue : (0xFF#8 - s.reg d).toNat = 255 - (s.reg d).toNat := by
      have ha := (s.reg d).isLt
      rw [BitVec.toNat_sub, BitVec.toNat_ofNat]
      omega
    refine ⟨t, ht, ?_⟩
    rw [hreg, hsreg]
    generalize 0xFF#8 - s.reg d = r at hvalue ⊢
    exact ⟨hvalue, rfl, rfl, Byte.getLsbD_seven r, rfl, rfl, rfl, rfl, rfl, hframe, hpc⟩
  case neg =>
    obtain ⟨t, ht, hreg, hsreg, hframe, hpc⟩ :=
      State.oneReg_writes (fun a => (0x00#8 - a, negFlags s.sreg a (0x00#8 - a))) hd
    exact ⟨t, ht, by rw [hreg, hsreg]; exact flagsOfSub_negFlags .., hframe, hpc⟩
  case inc =>
    obtain ⟨t, ht, hreg, hsreg, hframe, hpc⟩ := State.oneReg_writes (fun a => (a + 1#8, incFlags s.sreg (a + 1#8))) hd
    refine ⟨t, ht, ?_⟩
    rw [hreg, hsreg]
    exact ⟨BitVec.toNat_add _ _, flagsOfCount_incFlags s.sreg _, hframe, hpc⟩
  case dec =>
    obtain ⟨t, ht, hreg, hsreg, hframe, hpc⟩ := State.oneReg_writes (fun a => (a - 1#8, decFlags s.sreg (a - 1#8))) hd
    refine ⟨t, ht, ?_⟩
    rw [hreg, hsreg]
    refine ⟨?_, flagsOfCount_decFlags s.sreg _, hframe, hpc⟩
    rw [BitVec.toNat_sub, BitVec.toNat_ofNat]
    omega

end Sys2Proof.Machine
end

section
/-! The multiplications: one operation for the six forms. -/

namespace Sys2Proof.Machine

theorem State.multiply_writesPair {s : State} (h : s.cfg.core ≠ .avrRc) (d r : Reg) (x y z : Bool) :
    ∃ t, finish (s.multiply d r x y z) = .next t ∧
      WritesPair 0 (mulFlags s.sreg (s.reg d) (s.reg r) x y z).1 (mulFlags s.sreg (s.reg d) (s.reg r) x y z).2 s t :=
  ⟨_, finish_next.2 (State.multiply_eq h d r x y z), State.writesPair_setReg s 0 _ _⟩

/-- The fractional forms write twice the product, at 16 bits (41_multiply_des.md R207). -/
theorem mulFlags_value (f : Sreg) (a b : Byte) (x y frac : Bool) :
    (mulFlags f a b x y frac).1 =
      BitVec.ofInt 16 (if frac then 2 * (operandInt a x * operandInt b y) else operandInt a x * operandInt b y) := by
  cases frac with
  | false => rfl
  | true =>
    change BitVec.ofInt 16 _ <<< 1 = BitVec.ofInt 16 (2 * _)
    rw [BitVec.shiftLeft_eq_mul_twoPow, BitVec.mul_comm, BitVec.ofInt_mul 2]
    rfl

theorem State.multiply_multipliedTo {s : State} (h : s.cfg.core ≠ .avrRc) (d r : Reg) (x y frac : Bool) :
    ∃ t, finish (s.multiply d r x y frac) = .next t ∧
      MultipliedTo (operandInt (s.reg d) x * operandInt (s.reg r) y) frac s t := by
  obtain ⟨t, ht, hpair, hsreg, hframe, hpc⟩ := State.multiply_writesPair h d r x y frac
  refine ⟨t, ht, hpair.trans (mulFlags_value ..), ?_⟩
  rw [hpair, hsreg]
  exact ⟨rfl, rfl, rfl, rfl, rfl, rfl, rfl, rfl, hframe, hpc⟩

/-- Settles O15: the six forms are one operation, which differs in how the operands are read and in the shift. -/
theorem multiplyForms : Obligations.MultiplyForms := by
  intro d r s h
  have form := State.multiply_multipliedTo h d r
  exact ⟨form false false false, form true true false, form true false false, form false false true,
    form true true true, form true false true⟩

end Sys2Proof.Machine
end

section
/-! DES: the blocks of eight registers, one round, and the sixteen in order. -/

namespace Sys2Proof.Machine

/-! ### Blocks -/

/-- Byte `i` of a block is its register `i`: what is above the lowest register reads as a block of its own, 8 bits lower. -/
theorem blockValue_byte (s : State) (b : Reg) {i : Nat} (hi : i < 8) :
    (blockValue s b).extractLsb' (8 * i) 8 = s.reg (b + Fin.ofNat 32 i) := by
  have low {m : Nat} (x : BitVec m) (y : Byte) : (x ++ y).extractLsb' (8 * 0) 8 = y :=
    BitVec.extractLsb'_append_eq_right
  have high {m i : Nat} (x : BitVec m) (y : Byte) : (x ++ y).extractLsb' (8 * (i + 1)) 8 = x.extractLsb' (8 * i) 8 :=
    BitVec.extractLsb'_append_eq_of_le (Nat.le_add_left 8 (8 * i))
  rw [blockValue]
  obtain _ | i := i
  · exact (low ..).trans (congrArg s.reg (add_zero b).symm)
  iterate 6
    refine (high ..).trans ?_
    obtain _ | i := i
    · exact low ..
  obtain rfl : i = 0 := by omega
  exact (high ..).trans BitVec.extractLsb'_eq_self

theorem eq_of_bytes {v w : BitVec 64} (h : ∀ i < 8, v.extractLsb' (8 * i) 8 = w.extractLsb' (8 * i) 8) : v = w := by
  refine BitVec.eq_of_getLsbD_eq fun k hk => ?_
  have hbit := congrArg (·.getLsbD (k % 8)) (h (k / 8) (by omega))
  simpa [BitVec.getLsbD_extractLsb', Nat.mod_lt, Nat.div_add_mod] using hbit

theorem blockValue_eq {s : State} {b : Reg} {v : BitVec 64}
    (h : ∀ i < 8, s.reg (b + Fin.ofNat 32 i) = v.extractLsb' (8 * i) 8) : blockValue s b = v :=
  eq_of_bytes fun i hi => (blockValue_byte s b hi).trans (h i hi)

/-- A value in base 256: one digit more is one byte more. -/
theorem toNat_mod_succ_byte (v : BitVec 64) (n : Nat) :
    v.toNat % 256 ^ (n + 1) = v.toNat % 256 ^ n + (v.extractLsb' (8 * n) 8).toNat * 256 ^ n := by
  rw [Nat.mod_pow_succ, BitVec.extractLsb'_toNat, Nat.shiftRight_eq_div_pow, Nat.pow_mul, Nat.mul_comm (256 ^ n)]

theorem State.readBlock_eq {s : State} (h : s.cfg.core ≠ .avrRc) (b : Reg) {n : Nat} (hn : n ≤ 8) :
    s.readBlock b n = .ok ((blockValue s b).toNat % 256 ^ n) := by
  induction n with
  | zero => exact congrArg Except.ok (Nat.mod_one _).symm
  | succ n ih =>
    rw [State.readBlock, ih (by omega), Res.pure_bind, State.readReg_of_hasReg (State.hasReg_of_core h _), Res.pure_bind,
      toNat_mod_succ_byte, blockValue_byte s b (by omega)]
    rfl

theorem State.readBlock_eight {s : State} (h : s.cfg.core ≠ .avrRc) (b : Reg) :
    s.readBlock b 8 = .ok (blockValue s b).toNat :=
  (State.readBlock_eq h b le_rfl).trans (congrArg Except.ok (Nat.mod_eq_of_lt (blockValue s b).isLt))

/-- The registers `b` to `b + n - 1`. -/
def blockRegs (b : Reg) (n : Nat) : List Reg := (List.range n).map (b + Fin.ofNat 32 ·)

theorem blockRegs_succ (b : Reg) (n : Nat) : blockRegs b (n + 1) = blockRegs b n ++ [b + Fin.ofNat 32 n] := by
  simp [blockRegs, List.range_succ]

theorem not_mem_blockRegs (b : Reg) {n : Nat} (hn : n < 32) : b + Fin.ofNat 32 n ∉ blockRegs b n := by
  intro h
  obtain ⟨i, hi, heq⟩ := List.mem_map.1 h
  have hval := congrArg Fin.val (add_left_cancel heq)
  have := List.mem_range.1 hi
  simp only [Fin.ofNat] at hval
  omega

/-- What the first `n` bytes of `v`, written from register `b` on, leave. -/
structure WritesBlock (b : Reg) (v : BitVec 64) (n : Nat) (s t : State) : Prop where
  reg : ∀ i < n, t.reg (b + Fin.ofNat 32 i) = v.extractLsb' (8 * i) 8
  sreg : t.sreg = s.sreg
  frame : RegisterFrame (blockRegs b n) s t

theorem State.writeBlock_writesBlock {s : State} (h : s.cfg.core ≠ .avrRc) (b : Reg) (v : BitVec 64) {n : Nat}
    (hn : n ≤ 32) : ∃ t, s.writeBlock b v n = .ok t ∧ WritesBlock b v n s t := by
  induction n with
  | zero => exact ⟨s, rfl, fun _ hi => absurd hi (Nat.not_lt_zero _), rfl, RegisterFrame.refl s⟩
  | succ n ih =>
    obtain ⟨t, ht, hreg, hsreg, hframe⟩ := ih (by omega)
    have hhas := (hframe.hasReg (b + Fin.ofNat 32 n)).trans (State.hasReg_of_core h _)
    refine ⟨t.setReg (b + Fin.ofNat 32 n) (v.extractLsb' (8 * n) 8), ?_, fun i hi => ?_, hsreg, ?_⟩
    · rw [State.writeBlock, ht, Res.pure_bind, State.writeReg_of_hasReg _ hhas]
    · obtain hlt | rfl := Nat.lt_succ_iff_lt_or_eq.1 hi
      · have hne : b + Fin.ofNat 32 i ≠ b + Fin.ofNat 32 n := fun heq =>
          not_mem_blockRegs b (n := n) (by omega) (heq ▸ List.mem_map_of_mem (List.mem_range.2 hlt))
        rw [State.setReg_reg_of_ne _ _ hne, hreg i hlt]
      · exact State.setReg_reg_self ..
    · exact blockRegs_succ b n ▸ hframe.trans (State.setReg_frame t _ _)

/-! ### One round -/

theorem RegisterFrame.cfg {ds : List Reg} {s t : State} (h : RegisterFrame ds s t) : t.cfg = s.cfg := by
  obtain ⟨-, -, ⟨hcfg, -⟩, -⟩ := h
  exact hcfg

theorem RegisterFrame.mono {ds es : List Reg} {s t : State} (h : RegisterFrame ds s t) (hsub : ds ⊆ es) :
    RegisterFrame es s t := by
  obtain ⟨hregs, hrest⟩ := h
  exact ⟨fun i hi => hregs i fun hmem => hi (hsub hmem), hrest⟩

theorem RegisterFrame.blockValue_eq {ds : List Reg} {s t : State} (h : RegisterFrame ds s t) {b : Reg}
    (hb : ∀ i < 8, b + Fin.ofNat 32 i ∉ ds) : blockValue t b = blockValue s b := by
  obtain ⟨hregs, -⟩ := h
  exact Machine.blockValue_eq fun i hi => (hregs _ (hb i hi)).trans (blockValue_byte s b hi).symm

/-- What `n` words of DES instructions leave that make `out` of data and key (41_multiply_des.md R206). -/
structure WritesDes (out : BitVec 64 × BitVec 64) (n : Nat) (s t : State) : Prop where
  blocks : (blockValue t 0, blockValue t 8) = out
  sreg : t.sreg = s.sreg
  frame : RegisterFrame [0, 1, 2, 3, 4, 5, 6, 7, 8, 9, 10, 11, 12, 13, 14, 15] s t
  pc : PcAdvanced n s t

theorem exec_des_of_writeBlock {s t u : State} {K : BitVec 4} {out : BitVec 64 × BitVec 64} (h : s.cfg.core ≠ .avrRc)
    (hout : Config.desRound (blockValue s 0) (blockValue s 8) K s.sreg.h = out) (ht : s.writeBlock 0 out.1 8 = .ok t)
    (hu : t.writeBlock 8 out.2 8 = .ok u) : exec (.des K) s = .next (u.advance 1) := by
  change execDes K s = _
  simp only [execDes, State.readBlock_eight h, Res.pure_bind, BitVec.ofNat_toNat, BitVec.setWidth_eq, hout, ht, hu]
  rfl

theorem exec_des_writesDes {s : State} (h : s.cfg.core ≠ .avrRc) (K : BitVec 4) :
    ∃ t, exec (.des K) s = .next t ∧
      WritesDes (Config.desRound (blockValue s 0) (blockValue s 8) K s.sreg.h) 1 s t := by
  generalize hout : Config.desRound (blockValue s 0) (blockValue s 8) K s.sreg.h = out
  obtain ⟨t, ht, tdata⟩ := State.writeBlock_writesBlock h 0 out.1 (n := 8) (by omega)
  have hcore : t.cfg.core ≠ .avrRc := tdata.frame.cfg.symm ▸ h
  obtain ⟨u, hu, ukey⟩ := State.writeBlock_writesBlock hcore 8 out.2 (n := 8) (by omega)
  have hexec := exec_des_of_writeBlock h hout ht hu
  have hdata : blockValue u 0 = out.1 := (ukey.frame.blockValue_eq (by decide)).trans (blockValue_eq tdata.reg)
  exact ⟨_, hexec, Prod.ext hdata (blockValue_eq ukey.reg), ukey.sreg.trans tdata.sreg, tdata.frame.trans ukey.frame,
    (execDes_completes hexec).pcAdvanced⟩

/-! ### Several rounds -/

/-- The Program Counter keeps what both its widths keep (10_state.md R47). -/
theorem ofNat_mod_toNat (x p : Nat) : (BitVec.ofNat 22 (x % 2 ^ p)).toNat = x % 2 ^ min p 22 := by
  rw [BitVec.toNat_ofNat]
  obtain h | h := Nat.le_total p 22
  · rw [Nat.min_eq_left h, Nat.mod_eq_of_lt ((Nat.mod_lt _ (Nat.two_pow_pos p)).trans_le (Nat.pow_le_pow_right two_pos h))]
  · rw [Nat.min_eq_right h, Nat.mod_mod_of_dvd _ (Nat.pow_dvd_pow 2 h)]

theorem pcAdvanced_iff {n : Nat} {s t : State} :
    PcAdvanced n s t ↔ t.pc.toNat = (s.pc.toNat + n) % 2 ^ min s.cfg.pcBits 22 := by
  rw [PcAdvanced, ← BitVec.toNat_inj, ofNat_mod_toNat]

theorem PcAdvanced.trans {m n : Nat} {s t u : State} (h : PcAdvanced m s t) (k : PcAdvanced n t u) (hcfg : t.cfg = s.cfg) :
    PcAdvanced (m + n) s u := by
  rw [pcAdvanced_iff] at h k ⊢
  rw [k, h, hcfg, Nat.mod_add_mod, Nat.add_assoc]

theorem WritesDes.trans {a b : BitVec 64 × BitVec 64} {m n : Nat} {s t u : State} (h : WritesDes a m s t)
    (k : WritesDes b n t u) : WritesDes b (m + n) s u where
  blocks := k.blocks
  sreg := k.sreg.trans h.sreg
  frame := (h.frame.trans k.frame).mono (by decide)
  pc := h.pc.trans k.pc h.frame.cfg

theorem execAll_singleton (i : Instr) (s : State) : execAll [i] s = exec i s := by
  simp only [execAll]
  split
  next t ht => exact ht.symm
  next => rfl

theorem execAll_concat {p : List Instr} {s t : State} (h : execAll p s = .next t) (i : Instr) :
    execAll (p ++ [i]) s = exec i t := by
  induction p generalizing s with
  | nil => cases h; exact execAll_singleton i _
  | cons j p ih =>
    simp only [List.cons_append, execAll] at h ⊢
    split at h
    next u hu => exact ih h
    next o ho => exact absurd h (ho t)

/-- The first instructions of the DES program compute as many rounds. There is at least one: without any the Program Counter
would not be brought to its width (10_state.md R47). -/
theorem execAll_des_writesDes {s : State} (h : s.cfg.core ≠ .avrRc) (n : Nat) :
    ∃ t, execAll ((List.range (n + 1)).map fun k => .des (BitVec.ofNat 4 k)) s = .next t ∧
      WritesDes (desRounds Config.desRound s.sreg.h (n + 1) (blockValue s 0, blockValue s 8)) (n + 1) s t := by
  induction n with
  | zero =>
    obtain ⟨t, ht, hdes⟩ := exec_des_writesDes h 0#4
    exact ⟨t, (execAll_singleton _ s).trans ht, hdes⟩
  | succ n ih =>
    obtain ⟨t, ht, tdes⟩ := ih
    have hcore : t.cfg.core ≠ .avrRc := tdes.frame.cfg.symm ▸ h
    obtain ⟨u, hu, udes⟩ := exec_des_writesDes hcore (BitVec.ofNat 4 (n + 1))
    refine ⟨u, ?_, ?_⟩
    · rw [List.range_succ, List.map_append]
      exact (execAll_concat ht _).trans hu
    · have hround : desRounds Config.desRound s.sreg.h (n + 2) (blockValue s 0, blockValue s 8) =
          Config.desRound (blockValue t 0) (blockValue t 8) (BitVec.ofNat 4 (n + 1)) t.sreg.h := by
        rw [desRounds, ← tdes.blocks, tdes.sreg]
      exact hround ▸ tdes.trans udes

/-- Settles O16: sixteen rounds are the program, and what they make of the data is the law of the DES unit. -/
theorem desRound : Obligations.DesRound := by
  constructor
  · intro K s h
    obtain ⟨t, ht, hblocks, hsreg, hframe, hpc⟩ := exec_des_writesDes h K
    exact ⟨t, ht, hblocks, hsreg, hframe, hpc⟩
  · intro s h
    obtain ⟨t, ht, hblocks, hsreg, hframe, hpc⟩ := execAll_des_writesDes h 15
    refine ⟨t, ht, (congrArg Prod.fst hblocks).trans ?_, hsreg, hframe, hpc⟩
    obtain ⟨hencrypt, hdecrypt⟩ := desRound_law (blockValue s 0) (blockValue s 8)
    cases s.sreg.h with
    | false => exact hencrypt
    | true => exact hdecrypt

end Sys2Proof.Machine
end

section
/-! Jumps and branches: the Program Counter is set, and nothing else. -/

namespace Sys2Proof.Machine

theorem State.setPc_pcIs (s : State) (v : Int) : PcIs v s (s.setPc v) := rfl

theorem State.setPc_onlyPc (s : State) (v : Int) : OnlyPc s (s.setPc v) := ⟨RegisterFrame.refl s, rfl⟩

/-- Z as a word address is its register pair (42_change_of_flow.md R221). -/
theorem State.zWord_eq (s : State) : s.zWord = (pairValue s 30).toNat := (toNat_append_byte (s.reg 31) (s.reg 30)).symm

/-- EIND:Z is one number of 24 bits (42_change_of_flow.md R222). -/
theorem State.eind_zWord_eq (s : State) : s.eind.toNat * 65536 + s.zWord = (s.eind ++ pairValue s 30).toNat := by
  rw [BitVec.toNat_append, ← Nat.shiftLeft_add_eq_or_of_lt (pairValue s 30).isLt, Nat.shiftLeft_eq, State.zWord_eq]

theorem State.setPc_goes (s : State) (v : Int) : ∃ t, finish (.ok (s.setPc v)) = .next t ∧ PcIs v s t ∧ OnlyPc s t :=
  ⟨_, rfl, s.setPc_pcIs v, s.setPc_onlyPc v⟩

/-- Settles O24: all four set the Program Counter, the indirect ones from Z and EIND:Z. -/
theorem jumpForms : Obligations.JumpForms := by
  intro k a s
  exact ⟨s.setPc_goes _, s.zWord_eq ▸ s.setPc_goes s.zWord,
    s.eind_zWord_eq ▸ s.setPc_goes (s.eind.toNat * 65536 + s.zWord : Nat), s.setPc_goes _⟩

/-- What every branch does, whatever flag it tests (42_change_of_flow.md R241). -/
theorem State.branch_goes (s : State) (cond : Bool) (k : BitVec 7) :
    ∃ t, finish (.ok (s.branch cond k)) = .next t ∧
      PcIs (s.pc.toNat + (if cond then k.toInt else 0) + 1) s t ∧ OnlyPc s t :=
  s.setPc_goes _

/-- Settles O30: the twenty are one operation, on one flag or its complement. -/
theorem branchForms : Obligations.BranchForms := by
  intro b k s
  have form (cond : Bool) := s.branch_goes cond k
  simp only [List.forall_mem_cons, List.not_mem_nil, false_implies, implies_true, and_true]
  exact ⟨form _, form _, form _, form _, form _, form _, form _, form _, form _, form _, form _, form _, form _, form _,
    form _, form _, form _, form _, form _, form _⟩

end Sys2Proof.Machine
end

section
/-! The flags of a subtraction as the order of its operands, and the branches that decide it. -/

namespace Sys2Proof.Machine

/-- Without a carry, Z says that the operands are equal (42_change_of_flow.md R244). -/
theorem FlagsOfSub.z_eq {f g : Sreg} {a b r : Byte} (h : FlagsOfSub f g a b false false r) : g.z = decide (a = b) := by
  obtain ⟨hr, -, -, -, -, hz, -⟩ := h
  have ha := a.isLt
  have hb := b.isLt
  rw [carryNat_false] at hr
  rw [hz, Bool.not_false, Bool.true_or, Bool.and_true, decide_eq_decide, ← BitVec.toNat_inj, ← BitVec.toNat_inj,
    BitVec.toNat_ofNat]
  omega

/-- Without a carry, C says that the first operand is below as unsigned (42_change_of_flow.md R249). -/
theorem FlagsOfSub.c_eq {f g : Sreg} {a b r : Byte} {keepZ : Bool} (h : FlagsOfSub f g a b false keepZ r) :
    g.c = decide (a.toNat < b.toNat) := by
  obtain ⟨-, hc, -⟩ := h
  exact hc

/-- S is the sign of the exact difference: N, the sign of the result, corrected where the result overflowed
(42_change_of_flow.md R253). -/
theorem FlagsOfSub.s_eq {f g : Sreg} {a b r : Byte} {c keepZ : Bool} (h : FlagsOfSub f g a b c keepZ r) :
    g.s = decide (a.toInt < b.toInt + carryNat c) := by
  obtain ⟨hr, -, -, hv, hn, -, hs, -⟩ := h
  have hc := carryNat_le_one c
  have ha := a.isLt
  have hb := b.isLt
  rw [hs, hn, hv, overflows, Bool.eq_iff_iff, Bool.xor_iff_ne]
  simp only [ne_eq, decide_eq_decide, decide_eq_true_eq, BitVec.toInt_eq_toNat_cond]
  omega

/-- The six branches on Z, C and S, after a subtraction without carry, decide the relation of its operands that their name
says (42_change_of_flow.md R244, R245, R248, R249, R252, R253). -/
theorem FlagsOfSub.branches_decide {f : Sreg} {t : State} {a b r : Byte} (h : FlagsOfSub f t.sreg a b false false r)
    (k : BitVec 7) :
    ∀ q ∈ [(Instr.breq k, decide (a = b)), (Instr.brne k, decide (a ≠ b)),
           (Instr.brsh k, decide (b.toNat ≤ a.toNat)), (Instr.brlo k, decide (a.toNat < b.toNat)),
           (Instr.brge k, decide (b.toInt ≤ a.toInt)), (Instr.brlt k, decide (a.toInt < b.toInt))],
      ∃ u, exec q.1 t = .next u ∧ PcIs (t.pc.toNat + (if q.2 then k.toInt else 0) + 1) t u := by
  have form {cond rel : Bool} (hrel : cond = rel) : ∃ u, finish (.ok (t.branch cond k)) = .next u ∧
      PcIs (t.pc.toNat + (if rel then k.toInt else 0) + 1) t u := hrel ▸ ⟨_, rfl, rfl⟩
  have hs : t.sreg.s = decide (a.toInt < b.toInt) := by simpa using h.s_eq
  have hne : (!t.sreg.z) = decide (a ≠ b) := by rw [h.z_eq, decide_not]
  have hsh : (!t.sreg.c) = decide (b.toNat ≤ a.toNat) := by rw [h.c_eq, ← decide_not, decide_eq_decide, not_lt]
  have hge : (!t.sreg.s) = decide (b.toInt ≤ a.toInt) := by rw [hs, ← decide_not, decide_eq_decide, not_lt]
  simp only [List.forall_mem_cons, List.not_mem_nil, false_implies, implies_true, and_true]
  exact ⟨form h.z_eq, form hne, form hsh, form h.c_eq, form hge, form hs⟩

/-- Settles O31: the flags of each of the four are those of one subtraction. -/
theorem branchAfterCompare : Obligations.BranchAfterCompare := by
  intro d r K k s hd hr
  obtain ⟨⟨t, _, cp, cpFlags, -⟩, -, u, _, cpi, cpiFlags, -⟩ := compareForms d r K s hd hr
  obtain ⟨⟨v, sub, subFlags, -⟩, ⟨w, subi, subiFlags, -⟩, -⟩ := subForms d r K s hd hr
  simp only [List.forall_mem_cons (l := [_, _, _]), List.forall_mem_cons (l := [_, _]), List.forall_mem_cons (l := [_]),
    List.forall_mem_singleton]
  exact ⟨⟨t, cp, cpFlags.branches_decide k⟩, ⟨v, sub, subFlags.branches_decide k⟩, ⟨u, cpi, cpiFlags.branches_decide k⟩,
    w, subi, subiFlags.branches_decide k⟩

/-- A word as a signed number: its high byte signed, its low byte unsigned. -/
theorem toInt_append_byte (h l : Byte) : (h ++ l : Word).toInt = h.toInt * 256 + l.toNat := by
  have hl := l.isLt
  rw [BitVec.toInt_eq_toNat_cond, BitVec.toInt_eq_toNat_cond, toNat_append_byte]
  omega

theorem RegisterFrame.reg_eq {s t : State} (h : RegisterFrame [] s t) (i : Reg) : t.reg i = s.reg i := by
  obtain ⟨hregs, -⟩ := h
  exact hregs i List.not_mem_nil

/-- Settles O32: CPC finds the borrow and Z of CP, so its flags are those of one 16-bit subtraction. -/
theorem wordCompareFromBytes : Obligations.WordCompareFromBytes := by
  intro dl dh rl rh s hdl hdh hrl hrh
  obtain ⟨⟨t, _, ht, low, tframe⟩, -⟩ := compareForms dl rl 0#8 s hdl hrl
  obtain ⟨-, ⟨u, _, hu, high, -⟩, -⟩ :=
    compareForms dh rh 0#8 t ((tframe.hasReg dh).trans hdh) ((tframe.hasReg rh).trans hrh)
  rw [tframe.reg_eq dh, tframe.reg_eq rh] at high
  have hcarry := low.c_eq
  have hsign := high.s_eq
  obtain ⟨hhigh, hborrow, -, -, -, hzero, -⟩ := high
  obtain ⟨hlow, -, -, -, -, hzlow, -⟩ := low
  obtain ⟨-, hbelow, hequal⟩ := wordDifference_of_bytes hcarry (by simpa using hlow) hhigh
  refine ⟨t, u, ht, hu, ?_, hborrow.trans (decide_eq_decide.2 hbelow), ?_⟩
  · simp [hzero, hzlow, ← hequal]
  · have := (s.reg dl).isLt
    have := (s.reg rl).isLt
    rw [hsign, hcarry, toInt_append_byte, toInt_append_byte, decide_eq_decide]
    simp only [carryNat, decide_eq_true_eq]
    split <;> omega

end Sys2Proof.Machine
end

section
/-! Skips: one rule for the five instructions, which differ in where their condition comes from. -/

namespace Sys2Proof.Machine

theorem State.skip_answers (s : State) (cond : Bool) : SkipAnswers cond s.env s (finish (s.skip cond)) := by
  have completes (n : Nat) : ∃ t, finish (.ok (s.advance n)) = .next t ∧ OnlyPc s t ∧ PcAdvanced n s t :=
    ⟨_, rfl, s.setPc_onlyPc _, s.advance_pcAdvanced n⟩
  rw [State.skip_eq]
  cases cond with
  | false => exact completes 1
  | true =>
    simp only [SkipAnswers, State.progWord, if_true, true_and]
    split
    next beyond => rfl
    next inside => exact completes _

/-- A skip on a register, which the instruction reads first. -/
theorem State.readReg_skip_answers {s : State} {r : Reg} (hr : s.hasReg r = true) (cond : Byte → Bool) :
    SkipAnswers (cond (s.reg r)) s.env s (finish (s.readReg r >>= fun v => s.skip (cond v))) := by
  rw [State.readReg_of_hasReg hr]
  exact s.skip_answers _

/-- Settles O28: the registers exist, and the condition is what the rule of each says. -/
theorem registerSkips : Obligations.RegisterSkips := by
  intro d r b s hd hr
  have cpse : exec (.cpse d r) s = finish (s.readReg r >>= fun v => s.skip (decide (s.reg d = v))) := by
    change finish (s.readReg d >>= _) = _
    rw [State.readReg_of_hasReg hd]
    rfl
  exact ⟨cpse ▸ State.readReg_skip_answers hr fun v => decide (s.reg d = v),
    State.readReg_skip_answers hr fun v => !v.getLsbD b.val, State.readReg_skip_answers hr fun v => v.getLsbD b.val⟩

/-- A skip on a bit of an I/O location: the location is read once, then the skip is decided (20_memory.md R94). -/
theorem State.ioBitRead_skip_answers {s : State} {a : Nat} {v : Byte} (h : ioByte s a = some v) (b : Bit)
    (cond : Bool → Bool) :
    SkipAnswers (cond (v.getLsbD b.val)) (envAfterIoRead s a) s
      (finish (s.ioBitRead a b >>= fun p => p.2.skip (cond p.1))) := by
  rw [State.ioBitRead, State.ioRead_eq, h]
  exact (s.setEnv (envAfterIoRead s a)).skip_answers (cond (v.getLsbD b.val))

theorem State.ioBitRead_skip_stops {s : State} {a : Nat} (h : ioByte s a = none) (b : Bit) (cond : Bool → Bool) :
    finish (s.ioBitRead a b >>= fun p => p.2.skip (cond p.1)) = .fault (.unmappedAccess .io a) := by
  rw [State.ioBitRead, State.ioRead_eq, h]
  rfl

/-- Settles O29: SBIS skips on the bit, SBIC on its complement. -/
theorem ioSkips : Obligations.IoSkips := by
  intro A b s
  cases hbyte : ioByte s A.toNat with
  | some v => exact ⟨State.ioBitRead_skip_answers hbyte b not, State.ioBitRead_skip_answers hbyte b id⟩
  | none => exact ⟨State.ioBitRead_skip_stops hbyte b not, State.ioBitRead_skip_stops hbyte b id⟩

end Sys2Proof.Machine
end

section
/-! The stack in internal SRAM: the addresses below and above the Stack Pointer, and what pushes and pops leave. -/

namespace Sys2Proof.Machine

/-! ### Addresses -/

theorem natCast_stackBelow (s : State) (n : Nat) :
    (stackBelow s n : Int) = ((s.sp.toNat : Int) - n) % ((2 ^ s.cfg.spBits : Nat) : Int) :=
  Int.toNat_of_nonneg (Int.emod_nonneg _ (by positivity))

theorem stackBelow_zero {s : State} (h : s.sp.toNat < 2 ^ s.cfg.spBits) : stackBelow s 0 = s.sp.toNat := by
  have := natCast_stackBelow s 0
  rw [Nat.cast_zero, Int.sub_zero, Int.emod_eq_of_lt (by omega) (by omega)] at this
  exact_mod_cast this

/-- Fewer bytes below the Stack Pointer than its width has addresses are distinct. -/
theorem stackBelow_ne (s : State) {i j : Nat} (hij : i < j) (hj : j < 2 ^ s.cfg.spBits) :
    stackBelow s i ≠ stackBelow s j := by
  intro heq
  have hmod : ((s.sp.toNat : Int) - j) % ((2 ^ s.cfg.spBits : Nat) : Int) =
      ((s.sp.toNat : Int) - i) % ((2 ^ s.cfg.spBits : Nat) : Int) := by
    rw [← natCast_stackBelow, ← natCast_stackBelow, heq]
  have hle := Int.le_of_dvd (by omega) (Int.ModEq.dvd hmod)
  omega

/-- One byte further down is the Stack Pointer less one, at its width (10_state.md R51). -/
theorem setSp_stackBelow_sub_one {s t : State} (hcfg : t.cfg = s.cfg) (hwidth : s.cfg.spBits ≤ 16) (n : Nat) :
    (t.setSp ((stackBelow s n : Int) - 1)).sp.toNat = stackBelow s (n + 1) := by
  refine Nat.cast_injective (R := Int) ?_
  calc ((t.setSp ((stackBelow s n : Int) - 1)).sp.toNat : Int)
      = ((stackBelow s n : Int) - 1) % ((2 ^ s.cfg.spBits : Nat) : Int) := by
        rw [State.setSp_sp_toNat t _ (hcfg ▸ hwidth), hcfg]
    _ = ((s.sp.toNat : Int) - (n + 1 : Nat)) % ((2 ^ s.cfg.spBits : Nat) : Int) := by
        rw [natCast_stackBelow, Int.emod_sub_emod, Int.sub_sub, Nat.cast_succ]
    _ = (stackBelow s (n + 1) : Int) := (natCast_stackBelow s (n + 1)).symm

/-- After `n` bytes have been pushed, the byte `k` above the Stack Pointer is the one `n - k` below the old one. -/
theorem stackAbove_of_pushed {s t : State} {k n : Nat} (hcfg : t.cfg = s.cfg) (hsp : t.sp.toNat = stackBelow s n)
    (hk : k ≤ n) : stackAbove t k = stackBelow s (n - k) := by
  refine Nat.cast_injective (R := Int) ?_
  calc (stackAbove t k : Int)
      = ((stackBelow s n : Int) + k) % ((2 ^ s.cfg.spBits : Nat) : Int) := by
        rw [stackAbove, hcfg, hsp, Int.natCast_mod, Nat.cast_add]
    _ = ((s.sp.toNat : Int) - (n - k : Nat)) % ((2 ^ s.cfg.spBits : Nat) : Int) := by
        rw [natCast_stackBelow, Int.emod_add_emod, Nat.cast_sub hk, sub_sub_eq_add_sub, add_sub_right_comm]
    _ = (stackBelow s (n - k) : Int) := (natCast_stackBelow s (n - k)).symm

/-! ### Pushes -/

/-- Nothing but the Stack Pointer and internal SRAM may have changed. -/
def OnlyStack (s t : State) : Prop := ∃ sp dmem, t = { s with sp := sp, dmem := dmem }

theorem OnlyStack.cfg {s t : State} (h : OnlyStack s t) : t.cfg = s.cfg := by
  obtain ⟨_, _, rfl⟩ := h
  rfl

/-- What pushing `n` bytes leaves on a stack in internal SRAM, `v 0` first (10_state.md R51). -/
structure Pushed (v : Nat → Byte) (n : Nat) (s t : State) : Prop where
  byte : ∀ k < n, t.sramByte (stackBelow s k) = some (v k)
  other : ∀ b, (∀ k < n, b ≠ stackBelow s k) → t.sramByte b = s.sramByte b
  sp : t.sp.toNat = stackBelow s n
  frame : OnlyStack s t

theorem Pushed.zero (v : Nat → Byte) {s : State} (h : s.sp.toNat < 2 ^ s.cfg.spBits) : Pushed v 0 s s where
  byte := fun _ hk => absurd hk (Nat.not_lt_zero _)
  other := fun _ _ => rfl
  sp := (stackBelow_zero h).symm
  frame := ⟨_, _, rfl⟩

theorem State.push_of_sram {s : State} (h : dsMap s.cfg s.sp.toNat = .sram) (v : Byte) :
    s.push v = .ok ((s.setSramByte s.sp.toNat v).setSp ((s.sp.toNat : Int) - 1)) := by
  rw [State.push, State.memWrite, h]
  rfl

/-- One byte more is pushed where there is room for it: below the bytes before it, which it leaves. -/
theorem Pushed.push {v : Nat → Byte} {m n : Nat} {s t : State} (h : Pushed v n s t) (room : StackRoom s m) (hn : n < m) :
    ∃ u, t.push (v n) = .ok u ∧ Pushed v (n + 1) s u := by
  obtain ⟨hwidth, hm, -, hsram⟩ := room
  have hat : dsMap t.cfg t.sp.toNat = .sram := by rw [h.frame.cfg, h.sp]; exact hsram n hn
  refine ⟨_, State.push_of_sram hat _, ?_⟩
  rw [h.sp]
  refine ⟨fun k hk => ?_, fun b hb => ?_, setSp_stackBelow_sub_one h.frame.cfg hwidth n, ?_⟩
  · rw [State.setSp_sramByte]
    obtain hlt | rfl := Nat.lt_succ_iff_lt_or_eq.1 hk
    · rw [State.sramByte_setSramByte_of_ne _ _ (stackBelow_ne s hlt (by omega)), h.byte k hlt]
    · exact State.sramByte_setSramByte_self _ _ _
  · rw [State.setSp_sramByte, State.sramByte_setSramByte_of_ne _ _ (hb n n.lt_succ_self)]
    exact h.other b fun k hk => hb k (Nat.lt_succ_of_lt hk)
  · obtain ⟨_, _, rfl⟩ := h.frame
    exact ⟨_, _, rfl⟩

/-- A return address is pushed where there is room for its two or three bytes (42_change_of_flow.md R224). -/
theorem State.pushReturn_pushed {s : State} (room : StackRoom s (raBytes s.cfg)) (a : Nat) :
    ∃ t, s.pushReturn a = .ok t ∧ Pushed (returnByte s.cfg a) (raBytes s.cfg) s t := by
  have ⟨_, _, hsp, _⟩ := room
  have two : 2 ≤ raBytes s.cfg := by unfold raBytes; split <;> omega
  obtain ⟨t, ht, ht'⟩ := (Pushed.zero (returnByte s.cfg a) hsp).push room (by omega)
  obtain ⟨u, hu, hu'⟩ := ht'.push room (by omega)
  rw [← ht'.frame.cfg] at hu
  by_cases wide : 16 < s.cfg.pcBits
  · have three : raBytes s.cfg = 3 := if_pos wide
    obtain ⟨w, hw, hw'⟩ := hu'.push room (by omega)
    rw [← hu'.frame.cfg] at hw
    refine ⟨w, State.pushReturn_ok.2 ⟨t, u, ht, hu, ?_⟩, three ▸ hw'⟩
    rwa [if_pos (by rw [threeByteReturn, hu'.frame.cfg]; exact decide_eq_true wide)]
  · have hbytes : raBytes s.cfg = 2 := if_neg wide
    refine ⟨u, State.pushReturn_ok.2 ⟨t, u, ht, hu, ?_⟩, hbytes ▸ hu'⟩
    rw [if_neg (by rw [threeByteReturn, hu'.frame.cfg]; exact mt of_decide_eq_true wide)]

/-! ### Pops -/

/-- The Stack Pointer `n` bytes further up, at its width (10_state.md R51). -/
def State.raiseSp (s : State) (n : Nat) : State := s.setSp ((s.sp.toNat + n : Nat) : Int)

theorem State.raiseSp_sp_toNat {s : State} (h : s.cfg.spBits ≤ 16) (n : Nat) :
    (s.raiseSp n).sp.toNat = stackAbove s n :=
  State.setSp_natCast_toNat h _

theorem stackAbove_raiseSp {s : State} (h : s.cfg.spBits ≤ 16) (m n : Nat) :
    stackAbove (s.raiseSp m) n = stackAbove s (m + n) := by
  rw [stackAbove, State.raiseSp_sp_toNat h, stackAbove, stackAbove, ← Nat.add_assoc]
  exact Nat.mod_add_mod _ _ _

theorem State.raiseSp_raiseSp {s : State} (h : s.cfg.spBits ≤ 16) (m n : Nat) :
    (s.raiseSp m).raiseSp n = s.raiseSp (m + n) := by
  have hsp : ((s.raiseSp m).raiseSp n).sp = (s.raiseSp (m + n)).sp := by
    refine BitVec.eq_of_toNat_eq ?_
    rw [State.raiseSp_sp_toNat h (m + n), ← stackAbove_raiseSp h]
    exact State.raiseSp_sp_toNat (s := s.raiseSp m) h n
  exact congrArg (fun sp => { s with sp := sp }) hsp

theorem State.pop_of_sram {s : State} {v : Byte} (hwidth : s.cfg.spBits ≤ 16)
    (hmap : dsMap s.cfg (stackAbove s 1) = .sram) (hbyte : s.sramByte (stackAbove s 1) = some v) :
    s.pop = .ok (v, s.raiseSp 1) := by
  change (s.raiseSp 1).memRead (s.raiseSp 1).sp.toNat = _
  have hread : (s.raiseSp 1).sramRead (stackAbove s 1) = .ok v := by
    rw [State.sramRead, State.raiseSp, State.setSp_sramByte, hbyte]
  have hmap' : dsMap (s.raiseSp 1).cfg (stackAbove s 1) = .sram := hmap
  rw [State.raiseSp_sp_toNat hwidth, State.memRead, hmap']
  simp only [hread, Res.pure_bind]
  rfl

/-- Byte `n + 1` above the Stack Pointer is popped after the `n` below it. -/
theorem StackHolds.pop {s : State} {b : Nat → Byte} (h : StackHolds s b) {n : Nat} (hn : n < raBytes s.cfg) :
    (s.raiseSp n).pop = .ok (b (n + 1), s.raiseSp (n + 1)) := by
  obtain ⟨hwidth, hbytes⟩ := h
  obtain ⟨hmap, hbyte⟩ := hbytes (n + 1) (by omega) hn
  rw [← State.raiseSp_raiseSp hwidth]
  rw [← stackAbove_raiseSp hwidth] at hmap hbyte
  exact State.pop_of_sram hwidth hmap hbyte

/-- A return address on the stack is popped, the Stack Pointer being raised above it (42_change_of_flow.md R229). -/
theorem StackHolds.popReturn {s : State} {b : Nat → Byte} (h : StackHolds s b) :
    s.popReturn = .ok (returnAddress s.cfg b, s.raiseSp (raBytes s.cfg)) := by
  have ⟨hwidth, hbytes⟩ := h
  have first (two : 2 ≤ raBytes s.cfg) : s.pop = .ok (b 1, s.raiseSp 1) := by
    obtain ⟨hmap, hbyte⟩ := hbytes 1 le_rfl (by omega)
    exact State.pop_of_sram hwidth hmap hbyte
  refine State.popReturn_ok.2 ?_
  by_cases wide : 16 < s.cfg.pcBits
  · have three : raBytes s.cfg = 3 := if_pos wide
    have top : s.popTop = .ok (b 1, s.raiseSp 1) := (if_pos (decide_eq_true wide)).trans (first (by omega))
    rw [three]
    exact ⟨_, _, _, _, _, top, h.pop (by omega), h.pop (by omega), if_pos wide⟩
  · have two : raBytes s.cfg = 2 := if_neg wide
    have top : s.popTop = .ok (0x00#8, s) := if_neg (mt of_decide_eq_true wide)
    rw [two]
    refine ⟨_, _, _, _, _, top, first (by omega), h.pop (by omega), ?_⟩
    rw [returnAddress, if_neg wide, BitVec.toNat_ofNat, Nat.zero_mod, Nat.zero_mul, Nat.zero_add]

end Sys2Proof.Machine
end

section
/-! Calls and returns, and that a return comes back from any call. -/

namespace Sys2Proof.Machine

theorem KeptAcrossStack.refl (s : State) : KeptAcrossStack s s :=
  ⟨fun _ _ => rfl, ⟨rfl, rfl, rfl, rfl, rfl⟩, fun _ => rfl, rfl⟩

theorem ModeKept.refl (s : State) : ModeKept s s := ⟨rfl, rfl, rfl⟩

/-! ### Calls -/

/-- An instruction of `n` words that calls the word address `v`: the address of the word after it is pushed, then the
Program Counter goes to `v` (42_change_of_flow.md R224). -/
def CallsTo (i : Instr) (n : Nat) (v : Int) (s : State) : Prop :=
  exec i s = finish (s.pushReturn (s.pc.toNat + n) >>= fun u => .ok (u.setPc v))

/-- A target relative to the Program Counter is the same before and after the push. -/
theorem rcall_callsTo (k : BitVec 12) (s : State) : CallsTo (.rcall k) 1 (s.pc.toNat + k.toInt + 1) s := by
  change finish (s.pushReturn (s.pc.toNat + 1) >>= fun u => .ok (u.setPc (u.pc.toNat + k.toInt + 1))) = _
  cases hpush : s.pushReturn (s.pc.toNat + 1) with
  | ok u =>
    obtain ⟨-, hpc, -⟩ := State.pushReturn_control hpush
    rw [Res.pure_bind, Res.pure_bind, hpc]
  | error e => rfl

theorem icall_callsTo (s : State) : CallsTo .icall 1 ((pairValue s 30).toNat : Int) s := by
  rw [← s.zWord_eq]
  rfl

theorem eicall_callsTo (s : State) : CallsTo .eicall 1 ((s.eind ++ pairValue s 30).toNat : Int) s := by
  rw [← s.eind_zWord_eq]
  rfl

theorem call_callsTo (a : PcWord) (s : State) : CallsTo (.call a) 2 (a.toNat : Int) s := rfl

theorem CallsTo.of_pushReturn {i : Instr} {n : Nat} {v : Int} {s u : State} (h : CallsTo i n v s)
    (hpush : s.pushReturn (s.pc.toNat + n) = .ok u) : exec i s = .next (u.setPc v) := by
  rw [h, hpush]
  rfl

theorem CallsTo.of_pushReturn_error {i : Instr} {n : Nat} {v : Int} {s : State} {e : Stop} (h : CallsTo i n v s)
    (hpush : s.pushReturn (s.pc.toNat + n) = .error e) : exec i s = finish (.error e) := by
  rw [h, hpush]
  rfl

/-- With room on the stack a call completes: only the stack changes, and the Program Counter. -/
theorem CallsTo.pushed {i : Instr} {n : Nat} {v : Int} {s : State} (h : CallsTo i n v s)
    (room : StackRoom s (raBytes s.cfg)) :
    ∃ u, exec i s = .next (u.setPc v) ∧ Pushed (returnByte s.cfg (s.pc.toNat + n)) (raBytes s.cfg) s u := by
  obtain ⟨u, hpush, hpushed⟩ := State.pushReturn_pushed room (s.pc.toNat + n)
  exact ⟨u, h.of_pushReturn hpush, hpushed⟩

/-- What the pushes of a call and its jump leave, as the statements say it. -/
theorem Pushed.setPc_call {a : Nat} {s u : State} (h : Pushed (returnByte s.cfg a) (raBytes s.cfg) s u) (v : Int) :
    ReturnPushed a s (u.setPc v) ∧ PcIs v s (u.setPc v) ∧ KeptAcrossStack s (u.setPc v) ∧ ModeKept s (u.setPc v) ∧
      (u.setPc v).sreg = s.sreg ∧ (u.setPc v).env = s.env := by
  have hpushed : ReturnPushed a s (u.setPc v) := ⟨h.byte, h.other, h.sp⟩
  obtain ⟨_, _, rfl⟩ := h.frame
  exact ⟨hpushed, rfl, .refl s, .refl s, rfl, rfl⟩

/-- Settles O25: each of the four is the push of the return address, and then the jump. -/
theorem callForms : Obligations.CallForms := by
  intro k a s
  have form {i : Instr} {n : Nat} {v : Int} (h : CallsTo i n v s) :
      (StackRoom s (raBytes s.cfg) →
        ∃ t, exec i s = .next t ∧ ReturnPushed (s.pc.toNat + n) s t ∧ PcIs v s t ∧ KeptAcrossStack s t ∧
          ModeKept s t ∧ t.sreg = s.sreg ∧ t.env = s.env) ∧
      (∀ u, s.pushReturn (s.pc.toNat + n) = .ok u → exec i s = .next (u.setPc v)) ∧
      (∀ e, s.pushReturn (s.pc.toNat + n) = .error e → exec i s = finish (.error e)) := by
    refine ⟨fun room => ?_, fun _ => h.of_pushReturn, fun _ => h.of_pushReturn_error⟩
    obtain ⟨u, hexec, hpushed⟩ := h.pushed room
    exact ⟨_, hexec, hpushed.setPc_call v⟩
  simp only [List.forall_mem_cons, List.not_mem_nil, false_implies, implies_true, and_true]
  exact ⟨form (rcall_callsTo k s), form (icall_callsTo s), form (eicall_callsTo s), form (call_callsTo a s)⟩

/-! ### Returns -/

theorem StackHolds.exec_ret {s : State} {b : Nat → Byte} (h : StackHolds s b) :
    exec .ret s = .next ((s.raiseSp (raBytes s.cfg)).setPc (returnAddress s.cfg b)) := by
  change finish (s.popReturn >>= fun p => .ok (p.2.setPc p.1)) = _
  rw [h.popReturn]
  rfl

theorem StackHolds.exec_reti {s : State} {b : Nat → Byte} (h : StackHolds s b) :
    exec .reti s = .next ((((s.raiseSp (raBytes s.cfg)).setPc (returnAddress s.cfg b)).hardwareIFlag true).record
      .returnFromInterrupt) :=
  finish_next.2 (State.interruptReturn_ok.2 ⟨_, _, h.popReturn, rfl⟩)

theorem handlesIFlag_eq (cfg : Config) : handlesIFlag cfg.core = servesIFlag cfg := by
  unfold servesIFlag
  cases cfg.core <;> rfl

/-- The hardware sets I on the versions that do so, and nothing else (60_exceptions.md R427). -/
theorem State.hardwareIFlag_true (s : State) :
    s.hardwareIFlag true = s.setSreg { s.sreg with i := servesIFlag s.cfg || s.sreg.i } := by
  unfold State.hardwareIFlag
  rw [handlesIFlag_eq]
  cases servesIFlag s.cfg <;> rfl

theorem Sreg.oneFlagIs_i (f : Sreg) (x : Bool) : OneFlagIs 7 x f { f with i := x } := by
  refine ⟨rfl, fun j hj => ?_⟩
  match j with
  | 0 | 1 | 2 | 3 | 4 | 5 | 6 => rfl
  | 7 => exact absurd rfl hj

/-- Settles O26: both are the pop of the return address and the jump to it; RETI then sets I and tells the controller. -/
theorem returnForms : Obligations.ReturnForms := by
  intro b s h
  have ⟨hwidth, _⟩ := h
  have hsp := State.raiseSp_sp_toNat hwidth (raBytes s.cfg)
  have hreti := h.exec_reti
  rw [State.hardwareIFlag_true] at hreti
  exact ⟨⟨_, h.exec_ret, rfl, hsp, .refl s, fun _ => rfl, .refl s, rfl, rfl⟩,
    _, hreti, rfl, hsp, .refl s, fun _ => rfl, .refl s, s.sreg.oneFlagIs_i _, rfl⟩

/-! ### A call and the return from it -/

/-- The bytes of a return address, read in the order of the return, make the address at the width of the Program Counter:
three bytes hold 22 bits, two hold 16. -/
theorem returnAddress_returnByte {cfg : Config} (h : cfg.pcBits ≤ 22) (a : Nat) :
    returnAddress cfg (fun k => returnByte cfg a (raBytes cfg - k)) = a % 2 ^ cfg.pcBits := by
  have hlt : a % 2 ^ cfg.pcBits < 2 ^ cfg.pcBits := Nat.mod_lt _ (Nat.two_pow_pos _)
  unfold returnAddress raBytes returnByte
  split
  next wide =>
    have hpow : 2 ^ cfg.pcBits ≤ 2 ^ 22 := Nat.pow_le_pow_right two_pos h
    simp only [BitVec.toNat_ofNat]
    omega
  next narrow =>
    have hpow : 2 ^ cfg.pcBits ≤ 2 ^ 16 := Nat.pow_le_pow_right two_pos (Nat.le_of_not_lt narrow)
    simp only [BitVec.toNat_ofNat]
    omega

/-- A pushed return address is what a return finds, wherever the Program Counter is. -/
theorem Pushed.stackHolds {v : Nat → Byte} {s u : State} (h : Pushed v (raBytes s.cfg) s u)
    (room : StackRoom s (raBytes s.cfg)) (x : Int) :
    StackHolds (u.setPc x) fun k => v (raBytes s.cfg - k) := by
  obtain ⟨hwidth, -, -, hsram⟩ := room
  have hcfg := h.frame.cfg
  refine ⟨hcfg ▸ hwidth, fun k hk hkn => ?_⟩
  rw [State.setPc_cfg, hcfg] at hkn ⊢
  rw [State.setPc_sramByte, show stackAbove (u.setPc x) k = _ from stackAbove_of_pushed hcfg h.sp hkn]
  exact ⟨hsram _ (by omega), h.byte _ (by omega)⟩

/-- Raised by as many bytes as were pushed, the Stack Pointer is back. -/
theorem Pushed.raiseSp_sp {v : Nat → Byte} {n : Nat} {s u : State} (h : Pushed v n s u) (room : StackRoom s n) (x : Int) :
    ((u.setPc x).raiseSp n).sp = s.sp := by
  obtain ⟨hwidth, -, hsp, -⟩ := room
  have hcfg := h.frame.cfg
  refine BitVec.eq_of_toNat_eq ?_
  rw [State.raiseSp_sp_toNat (s := u.setPc x) (hcfg ▸ hwidth), stackAbove_of_pushed (t := u.setPc x) hcfg h.sp le_rfl,
    Nat.sub_self, stackBelow_zero hsp]

/-- An address already reduced to the width of the Program Counter is reduced again without a change (10_state.md R47). -/
theorem PcAdvanced.of_pcIs_mod {n : Nat} {s t : State}
    (h : PcIs ((s.pc.toNat + n) % 2 ^ s.cfg.pcBits : Nat) s t) : PcAdvanced n s t := by
  rwa [PcIs, ← Int.natCast_mod, Int.toNat_natCast, Nat.mod_mod] at h

/-- Settles O27: the return pops what the call pushed, and raises the Stack Pointer by as many bytes. -/
theorem callThenReturn : Obligations.CallThenReturn := by
  rintro k a s ⟨hcfg, -⟩ room
  obtain ⟨hpc, -⟩ := accepted_widths hcfg
  have form {i : Instr} {n : Nat} {v : Int} (h : CallsTo i n v s) :
      ∃ t u, exec i s = .next t ∧ exec .ret t = .next u ∧ PcAdvanced n s u ∧ u.sp = s.sp ∧ u.sreg = s.sreg ∧
        KeptAcrossStack s u := by
    obtain ⟨u, hexec, hpushed⟩ := h.pushed room
    have hret := (hpushed.stackHolds room v).exec_ret
    rw [State.setPc_cfg, hpushed.frame.cfg, returnAddress_returnByte hpc] at hret
    have hsp := hpushed.raiseSp_sp room v
    obtain ⟨_, _, rfl⟩ := hpushed.frame
    exact ⟨_, _, hexec, hret, .of_pcIs_mod rfl, hsp, rfl, .refl s⟩
  simp only [List.forall_mem_cons, List.not_mem_nil, false_implies, implies_true, and_true]
  exact ⟨form (rcall_callsTo k s), form (icall_callsTo s), form (eicall_callsTo s), form (call_callsTo a s)⟩

end Sys2Proof.Machine
end

section
/-! Copies between registers: the destination gets its value, and no flag changes. -/

namespace Sys2Proof.Machine

/-- The common end of the copies: Rd is written, then `pc <- pc + 1`. -/
theorem State.writeReg_writes {s : State} {d : Reg} (v : Byte) (hd : s.hasReg d = true) :
    ∃ t, finish (s.writeReg d v >>= fun u => pure (u.advance 1)) = .next t ∧ Writes d v s.sreg s t := by
  rw [State.writeReg_of_hasReg v hd]
  exact ⟨_, rfl, State.writes_setReg s d v s.sreg⟩

theorem State.writePair_writesPair {s : State} {d : Reg} (v : Word) (h0 : s.hasReg d = true)
    (h1 : s.hasReg (d + 1) = true) :
    ∃ t, finish (s.writePair d v >>= fun u => pure (u.advance 1)) = .next t ∧ WritesPair d v s.sreg s t := by
  rw [State.writePair_of_hasReg v h0 h1]
  exact ⟨_, rfl, State.writesPair_setReg s d v s.sreg⟩

/-- AVRrc lacks the registers below R16, so it has both registers of a pair or neither (10_state.md R42). -/
theorem State.hasReg_add_one {s : State} {d : Reg} (h : s.hasReg d = true) (hpair : d.isPair = true) :
    s.hasReg (d + 1) = true := by
  have heven := Reg.isPair_iff.1 hpair
  simp only [State.hasReg, Bool.or_eq_true, decide_eq_true_eq] at h ⊢
  refine h.imp_right fun hupper => ?_
  rw [Fin.val_add_one_of_lt' (by omega)]
  omega

/-- SWAP exchanges the two halves of a byte (45_bit_and_bit_test.md R365). -/
theorem Byte.swap_eq_append (v : Byte) : v <<< 4 ||| v >>> 4 = v.extractLsb' 0 4 ++ v.extractLsb' 4 4 := by
  revert v
  decide

/-- Settles O14: each of the five writes its destination once, with the status as it was. -/
theorem copyForms : Obligations.CopyForms := by
  intro d r K s hd hr
  have single {o : StepOutcome} {v : Byte} (h : ∃ t, o = .next t ∧ Writes d v s.sreg s t) :
      ∃ t, o = .next t ∧ t.reg d = v ∧ t.sreg = s.sreg ∧ RegisterFrame [d] s t ∧ PcAdvanced 1 s t := by
    obtain ⟨t, ht, hreg, hsreg, hframe, hpc⟩ := h
    exact ⟨t, ht, hreg, hsreg, hframe, hpc⟩
  have mov : exec (.mov d r) s = finish (s.writeReg d (s.reg r) >>= fun u => pure (u.advance 1)) := by
    change finish (s.readReg r >>= _) = _
    rw [State.readReg_of_hasReg hr]
    rfl
  have movw (hpair : r.isPair = true) :
      exec (.movw d r) s = finish (s.writePair d (pairValue s r) >>= fun u => pure (u.advance 1)) := by
    change finish (s.readPair r >>= _) = _
    rw [State.readPair_of_hasReg hr (State.hasReg_add_one hr hpair)]
    rfl
  have swap := State.oneReg_writes (fun v => (v <<< 4 ||| v >>> 4, s.sreg)) hd
  rw [Byte.swap_eq_append] at swap
  refine ⟨mov ▸ single (State.writeReg_writes _ hd), fun hdp hrp => ?_, single (State.writeReg_writes K hd),
    single (State.writeReg_writes 0xFF#8 hd), single swap⟩
  obtain ⟨t, ht, hpair, hsreg, hframe, hpc⟩ :=
    State.writePair_writesPair (pairValue s r) hd (State.hasReg_add_one hd hdp)
  exact ⟨t, (movw hrp).trans ht, hpair, hsreg, hframe, hpc⟩

end Sys2Proof.Machine
end

section
/-! Loads from and stores to data space: what a load leaves in its register, and what an access answers in every region. -/

namespace Sys2Proof.Machine

/-! ### Loads -/

theorem State.hasReg_of_cfg {s t : State} (h : t.cfg = s.cfg) (i : Reg) : t.hasReg i = s.hasReg i := by
  rw [State.hasReg, State.hasReg, h]

theorem State.loadReg_of_dataByte {s : State} {d : Reg} {a : Nat} {v : Byte} (hd : s.hasReg d = true)
    (h : dataByte s a = some v) : s.loadReg d a = .ok ((s.setEnv (envAfterRead s a)).setReg d v) := by
  rw [State.loadReg, State.memRead_eq, h]
  exact State.writeReg_of_hasReg (s := s.setEnv (envAfterRead s a)) v hd

theorem State.loadReg_of_no_byte {s : State} (d : Reg) {a : Nat} (h : dataByte s a = none) :
    s.loadReg d a = raise (readFault s a) := by
  rw [State.loadReg, State.memRead_eq, h]
  rfl

theorem State.setReg_loadedInto (s : State) (d : Reg) (v : Byte) (e : Env) :
    LoadedInto d v e s ((s.setEnv e).setReg d v) := by
  obtain ⟨hregs, hext, hmode, hsp, hsram, hflash, henv⟩ := State.setReg_frame (s.setEnv e) d v
  exact ⟨State.setReg_reg_self _ d v, hregs, rfl, hsp, hext, hmode, hsram, hflash, henv⟩

/-- A load of the byte `v`, and then the step to the word `n` further. -/
theorem State.setReg_advance_loads (s : State) (d : Reg) (v : Byte) (e : Env) (n : Nat) :
    ∃ t, finish (.ok (((s.setEnv e).setReg d v).advance n)) = .next t ∧ LoadedInto d v e s t ∧ PcAdvanced n s t :=
  ⟨_, rfl, s.setReg_loadedInto d v e, s.advance_pcAdvanced n⟩

/-- What an instruction of `n` words answers that loads Rd from data-space address `a`: `o` (20_memory.md R86). -/
def LoadAnswers (d : Reg) (a n : Nat) (s : State) (o : StepOutcome) : Prop :=
  match dataByte s a with
  | some v => ∃ t, o = .next t ∧ LoadedInto d v (envAfterRead s a) s t ∧ PcAdvanced n s t
  | none => o = .fault (readFault s a)

theorem State.loadReg_answers {s : State} {d : Reg} (hd : s.hasReg d = true) (a n : Nat) :
    LoadAnswers d a n s (finish (s.loadReg d a >>= fun u => pure (u.advance n))) := by
  unfold LoadAnswers
  split
  next v hbyte =>
    rw [State.loadReg_of_dataByte hd hbyte]
    exact s.setReg_advance_loads d v _ n
  next hbyte =>
    rw [State.loadReg_of_no_byte d hbyte]
    rfl

/-! ### Stores -/

theorem State.storeReg_eq {s : State} {r : Reg} (hr : s.hasReg r = true) (a : Nat) :
    s.storeReg r a = if writable s a then .ok (s.stored a (s.reg r)) else raise (writeFault s a) := by
  rw [State.storeReg, State.readReg_of_hasReg hr]
  exact State.memWrite_eq s a (s.reg r)

theorem State.storeReg_of_writable {s : State} {r : Reg} {a : Nat} (hr : s.hasReg r = true)
    (h : writable s a = true) : s.storeReg r a = .ok (s.stored a (s.reg r)) :=
  (State.storeReg_eq hr a).trans (if_pos h)

/-- What an instruction of `n` words answers that stores Rr to data-space address `a`: `o` (20_memory.md R87). -/
def StoreAnswers (r : Reg) (a n : Nat) (s : State) (o : StepOutcome) : Prop :=
  if writable s a = true then ∃ u, StoredAt a (s.reg r) s u ∧ o = .next (u.advance n)
  else o = .fault (writeFault s a)

theorem State.storeReg_answers {s : State} {r : Reg} (hr : s.hasReg r = true) (a n : Nat) :
    StoreAnswers r a n s (finish (s.storeReg r a >>= fun u => pure (u.advance n))) := by
  rw [StoreAnswers, State.storeReg_eq hr]
  split
  next answers => exact ⟨_, State.storedAt_stored answers _, rfl⟩
  next stops => rfl

/-! ### The addresses -/

/-- RAMPD above the address of the instruction is one number of 24 bits (43_data_transfer.md R297). -/
theorem State.directAddr_eq (s : State) (k : Word) :
    s.directAddr k = (if s.cfg.hasRampD then (s.rampd ++ k).toNat else k.toNat) % 2 ^ s.cfg.dsBits := by
  have happend : (s.rampd ++ k).toNat = s.rampd.toNat * 65536 + k.toNat := by
    rw [BitVec.toNat_append, ← Nat.shiftLeft_add_eq_or_of_lt k.isLt, Nat.shiftLeft_eq]
  rw [State.directAddr, happend, ea, ea]
  split <;> rfl

/-- The address of the one-word forms, bit by bit (43_data_transfer.md R284). -/
theorem rcAddr_eq (j : BitVec 7) :
    rcAddr j = (BitVec.ofBool (!j.getLsbD 4) ++ BitVec.ofBool (j.getLsbD 4) ++ BitVec.ofBool (j.getLsbD 6) ++
      BitVec.ofBool (j.getLsbD 5) ++ j.extractLsb' 0 4).toNat := by
  revert j
  decide

/-- Settles O37: the two forms of each direction are one load or one store, at the address their rule makes. -/
theorem directForms : Obligations.DirectForms := by
  intro d k j s hd
  have form (a n : Nat) := And.intro (State.loadReg_answers hd a n) (State.storeReg_answers hd a n)
  simp only [List.forall_mem_cons, List.not_mem_nil, false_implies, implies_true, and_true]
  rw [← State.directAddr_eq, ← rcAddr_eq]
  exact ⟨form (s.directAddr k) 2, form (rcAddr j) 1⟩

end Sys2Proof.Machine
end

section
/-! The pointers: the width of one, what reading it gives, and what writing it changes (43_data_transfer.md R285). -/

namespace Sys2Proof.Machine

theorem ptrBits_cases (cfg : Config) (p : Ptr) : ptrBits cfg p = 8 ∨ ptrBits cfg p = 16 ∨ ptrBits cfg p = 24 := by
  unfold ptrBits
  split
  next => exact .inl rfl
  next => split <;> simp

/-- A pointer holds no more than its width. -/
theorem State.ptrGet_lt (s : State) (p : Ptr) : s.ptrGet p < 2 ^ ptrBits s.cfg p := by
  have hlo := (s.reg p.lo).isLt
  have hhi := (s.reg p.hi).isLt
  have hramp := (s.ramp p).isLt
  unfold State.ptrGet
  obtain h | h | h := ptrBits_cases s.cfg p <;> simp only [h, if_true, reduceIte, Nat.reduceEqDiff] <;> omega

theorem displaced_zero (s : State) (p : Ptr) : displaced s p 0 = s.ptrGet p := Nat.mod_eq_of_lt (s.ptrGet_lt p)

theorem Ptr.hi_ne_lo (p : Ptr) : p.hi ≠ p.lo := by
  cases p <;> decide

/-! ### The extension register of a pointer -/

theorem State.setRamp_ramp_self (s : State) (p : Ptr) (v : Byte) : (s.setRamp p v).ramp p = v := by
  cases p <;> rfl

theorem State.setRamp_ramp_of_ne (s : State) {p q : Ptr} (v : Byte) (h : q ≠ p) : (s.setRamp p v).ramp q = s.ramp q := by
  revert h
  cases p <;> cases q <;> simp [State.setRamp, State.ramp]

theorem State.setRamp_reg (s : State) (p : Ptr) (v : Byte) (i : Reg) : (s.setRamp p v).reg i = s.reg i := by
  cases p <;> rfl

theorem State.setReg_ramp (s : State) (i : Reg) (v : Byte) (p : Ptr) : (s.setReg i v).ramp p = s.ramp p := by
  cases p <;> rfl

theorem ExtensionsKept.ramp {s t : State} (h : ExtensionsKept s t) (p : Ptr) : t.ramp p = s.ramp p := by
  obtain ⟨hx, hy, hz, -, -⟩ := h
  cases p with
  | x => exact hx
  | y => exact hy
  | z => exact hz

/-! ### Writing a pointer -/

theorem State.ptrSet_of_8 {s : State} {p : Ptr} (h : ptrBits s.cfg p = 8) (v : Nat) :
    s.ptrSet p v = s.setReg p.lo (BitVec.ofNat 8 v) := by
  simp [State.ptrSet, h]

theorem State.ptrSet_of_16 {s : State} {p : Ptr} (h : ptrBits s.cfg p = 16) (v : Nat) :
    s.ptrSet p v = (s.setReg p.lo (BitVec.ofNat 8 v)).setReg p.hi (BitVec.ofNat 8 (v / 256)) := by
  simp [State.ptrSet, h]

theorem State.ptrSet_of_24 {s : State} {p : Ptr} (h : ptrBits s.cfg p = 24) (v : Nat) :
    s.ptrSet p v =
      ((s.setReg p.lo (BitVec.ofNat 8 v)).setReg p.hi (BitVec.ofNat 8 (v / 256))).setRamp p
        (BitVec.ofNat 8 (v / 65536)) := by
  simp [State.ptrSet, h]

/-- A pointer write changes registers and the extension registers of pointers alone. -/
theorem State.ptrSet_eq (s : State) (p : Ptr) (v : Nat) :
    ∃ regs x y z, s.ptrSet p v = { s with regs := regs, rampx := x, rampy := y, rampz := z } := by
  obtain h | h | h := ptrBits_cases s.cfg p
  · exact ⟨_, _, _, _, State.ptrSet_of_8 h v⟩
  · exact ⟨_, _, _, _, State.ptrSet_of_16 h v⟩
  · rw [State.ptrSet_of_24 h]
    cases p <;> exact ⟨_, _, _, _, rfl⟩

@[simp] theorem State.ptrSet_cfg (s : State) (p : Ptr) (v : Nat) : (s.ptrSet p v).cfg = s.cfg := (Kept.ptrSet s p v).cfg

@[simp] theorem State.ptrSet_env (s : State) (p : Ptr) (v : Nat) : (s.ptrSet p v).env = s.env := by
  obtain ⟨_, _, _, _, h⟩ := s.ptrSet_eq p v
  rw [h]

/-- A pointer write gives the pointer its value, as much of it as the pointer's width has. -/
theorem State.ptrSet_pointerIs (s : State) (p : Ptr) (v : Nat) : PointerIs p v s (s.ptrSet p v) := by
  have lo_ne_hi := p.hi_ne_lo.symm
  unfold PointerIs
  obtain h | h | h := ptrBits_cases s.cfg p
  · rw [State.ptrSet_of_8 h, h]
    exact ⟨State.setReg_reg_self .., State.setReg_reg_of_ne s _ p.hi_ne_lo, State.setReg_ramp ..,
      fun q _ => State.setReg_ramp ..⟩
  · rw [State.ptrSet_of_16 h, h, State.setReg_reg_of_ne _ _ lo_ne_hi]
    exact ⟨State.setReg_reg_self .., State.setReg_reg_self .., by simp [State.setReg_ramp],
      fun q _ => by simp [State.setReg_ramp]⟩
  · rw [State.ptrSet_of_24 h, h, State.setRamp_reg, State.setRamp_reg, State.setReg_reg_of_ne _ _ lo_ne_hi]
    exact ⟨State.setReg_reg_self .., State.setReg_reg_self .., State.setRamp_ramp_self ..,
      fun q hq => by simp [State.setRamp_ramp_of_ne _ _ hq, State.setReg_ramp]⟩

theorem State.ptrSet_reg_of_ne (s : State) {p : Ptr} (v : Nat) {i : Reg} (hlo : i ≠ p.lo) (hhi : i ≠ p.hi) :
    (s.ptrSet p v).reg i = s.reg i := by
  obtain h | h | h := ptrBits_cases s.cfg p
  · rw [State.ptrSet_of_8 h, State.setReg_reg_of_ne _ _ hlo]
  · rw [State.ptrSet_of_16 h, State.setReg_reg_of_ne _ _ hhi, State.setReg_reg_of_ne _ _ hlo]
  · rw [State.ptrSet_of_24 h, State.setRamp_reg, State.setReg_reg_of_ne _ _ hhi, State.setReg_reg_of_ne _ _ hlo]

theorem State.ptrSet_pointerFrame (s : State) (p : Ptr) (v : Nat) : PointerFrame p [] s (s.ptrSet p v) := by
  have hregs : RegsKeptBut [p.lo, p.hi] s (s.ptrSet p v) := fun i hi => by
    rw [List.mem_pair, not_or] at hi
    obtain ⟨hlo, hhi⟩ := hi
    exact s.ptrSet_reg_of_ne v hlo hhi
  obtain ⟨_, _, _, _, h⟩ := s.ptrSet_eq p v
  refine ⟨hregs, ?_⟩
  rw [h]
  exact ⟨rfl, rfl, rfl, rfl, ⟨rfl, rfl, rfl⟩, fun _ => rfl, fun _ => rfl⟩

/-! ### A pointer write before or after a load -/

theorem LoadedInto.reg_of_ne {d i : Reg} {v : Byte} {e : Env} {s t : State} (h : LoadedInto d v e s t) (hi : i ≠ d) :
    t.reg i = s.reg i := by
  obtain ⟨-, hregs, -⟩ := h
  exact hregs i (List.not_mem_cons_of_ne_of_not_mem hi List.not_mem_nil)

theorem LoadedInto.pointerFrame {d : Reg} {v : Byte} {e : Env} {s t : State} (h : LoadedInto d v e s t) (p : Ptr) :
    PointerFrame p [d] s t := by
  obtain ⟨-, hregs, hsreg, hsp, ⟨-, -, -, hrampd, heind⟩, hmode, hsram, hflash, -⟩ := h
  exact ⟨fun i hi => hregs i fun hd => hi (List.mem_cons_of_mem _ (List.mem_cons_of_mem _ hd)), hsreg, hsp, hrampd, heind,
    hmode, hsram, hflash⟩

theorem PointerFrame.trans {p : Ptr} {ds es : List Reg} {s t u : State} (h : PointerFrame p ds s t)
    (k : PointerFrame p es t u) : PointerFrame p (ds ++ es) s u := by
  obtain ⟨hregs, hsreg, hsp, hrampd, heind, ⟨hcfg, hmode, hirq⟩, hsram, hflash⟩ := h
  obtain ⟨kregs, ksreg, ksp, krampd, keind, ⟨kcfg, kmode, kirq⟩, ksram, kflash⟩ := k
  refine ⟨fun i hi => ?_, ksreg.trans hsreg, ksp.trans hsp, krampd.trans hrampd, keind.trans heind,
    ⟨kcfg.trans hcfg, kmode.trans hmode, kirq.trans hirq⟩, fun a => (ksram a).trans (hsram a),
    fun b => (kflash b).trans (hflash b)⟩
  simp only [List.mem_cons, List.mem_append, not_or] at hi
  obtain ⟨hlo, hhi, hds, hes⟩ := hi
  exact (kregs i (by simp [hlo, hhi, hes])).trans (hregs i (by simp [hlo, hhi, hds]))

/-- A load into a register that is none of the pointer's leaves the pointer as a write before it left it. -/
theorem PointerIs.load {p : Ptr} {x : Nat} {d : Reg} {v : Byte} {e : Env} {s t u : State} (h : PointerIs p x s t)
    (hload : LoadedInto d v e t u) (hlo : p.lo ≠ d) (hhi : p.hi ≠ d) : PointerIs p x s u := by
  have ⟨_, _, _, _, hext, _⟩ := hload
  rwa [PointerIs, hload.reg_of_ne hlo, hload.reg_of_ne hhi, hext.ramp p, forall_congr' fun q => by rw [hext.ramp q]]

/-- A load into a register that is none of the pointer's leaves the pointer as it was for a write after it. -/
theorem LoadedInto.pointerIs {p : Ptr} {x : Nat} {d : Reg} {v : Byte} {e : Env} {s t u : State}
    (hload : LoadedInto d v e s t) (hhi : p.hi ≠ d) (h : PointerIs p x t u) : PointerIs p x s u := by
  have ⟨_, _, _, _, hext, ⟨hcfg, _⟩, _⟩ := hload
  rw [PointerIs, hcfg, hload.reg_of_ne hhi, hext.ramp p] at h
  obtain ⟨hlow, hhigh, hramp, hother⟩ := h
  exact ⟨hlow, hhigh, hramp, fun q hq => (hother q hq).trans (hext.ramp q)⟩

end Sys2Proof.Machine
end

section
/-! Loads and stores through a pointer: one rule per form, for the three pointers alike. -/

namespace Sys2Proof.Machine

/-! ### A pointer left unchanged -/

/-- Settles O33: each of the five is one load at the displaced pointer, by nothing where the form has no displacement. -/
theorem loadForms : Obligations.LoadForms := by
  intro d q s hd
  have form {p : Ptr} {n a : Nat} (ha : displaced s p n = a) :
      LoadAnswers d (a % 2 ^ s.cfg.dsBits) 1 s (finish (s.loadPtr d p n)) :=
    ha ▸ State.loadReg_answers hd (displaced s p n % 2 ^ s.cfg.dsBits) 1
  simp only [List.forall_mem_cons, List.not_mem_nil, false_implies, implies_true, and_true]
  exact ⟨form (displaced_zero s .x), form (displaced_zero s .y), form rfl, form (displaced_zero s .z), form rfl⟩

/-- Settles O35: each of the five is one store at the displaced pointer, by nothing where the form has no displacement. -/
theorem storeForms : Obligations.StoreForms := by
  intro r q s hr
  have form {p : Ptr} {n a : Nat} (ha : displaced s p n = a) :
      StoreAnswers r (a % 2 ^ s.cfg.dsBits) 1 s (finish (s.storePtr r p n)) :=
    ha ▸ State.storeReg_answers hr (displaced s p n % 2 ^ s.cfg.dsBits) 1
  simp only [List.forall_mem_cons, List.not_mem_nil, false_implies, implies_true, and_true]
  exact ⟨form (displaced_zero s .x), form (displaced_zero s .y), form rfl, form (displaced_zero s .z), form rfl⟩

/-! ### The operands that stop -/

theorem isOwnReg_iff {p : Ptr} {d : Reg} : isOwnReg p d = true ↔ d = p.lo ∨ d = p.hi := by
  simp [isOwnReg]

theorem landsOnOwnReg_iff {cfg : Config} {p : Ptr} {a : Nat} :
    landsOnOwnReg cfg p a = true ↔ dsMap cfg a = .reg p.lo ∨ dsMap cfg a = .reg p.hi := by
  unfold landsOnOwnReg
  cases dsMap cfg a <;> simp [isOwnReg_iff]

theorem State.requireDefined_of_true {s : State} {x : Bool} (h : x = true) :
    s.requireDefined x = raise (.undefinedOperands s.pc.toNat) := if_pos h

theorem State.requireDefined_of_not {s : State} {x : Bool} (h : ¬ x = true) : s.requireDefined x = .ok () := if_neg h

/-! ### Loads that update the pointer -/

/-- What a load of the byte `v` into Rd leaves that updates the pointer to `x`, `e` being the surroundings after the
read. -/
def LoadedWithUpdate (p : Ptr) (x : Nat) (d : Reg) (v : Byte) (e : Env) (s t : State) : Prop :=
  t.reg d = v ∧ PointerIs p x s t ∧ PointerFrame p [d] s t ∧ t.env = e ∧ PcAdvanced 1 s t

theorem State.loadPtrInc_undefined {s : State} {d : Reg} {p : Ptr} (h : d = p.lo ∨ d = p.hi) :
    s.loadPtrInc d p = raise (.undefinedOperands s.pc.toNat) := by
  rw [State.loadPtrInc, State.requireDefined_of_true (isOwnReg_iff.2 h)]
  rfl

theorem State.loadPtrInc_defined {s : State} {d : Reg} {p : Ptr} (h : ¬ (d = p.lo ∨ d = p.hi)) :
    s.loadPtrInc d p = s.loadReg d (s.ptrGet p % 2 ^ s.cfg.dsBits) >>= fun u =>
      .ok ((u.ptrSet p (ptrAdd u.cfg p (s.ptrGet p) 1)).advance 1) := by
  rw [State.loadPtrInc, State.requireDefined_of_not (isOwnReg_iff.not.2 h)]
  rfl

theorem State.loadPtrDec_undefined {s : State} {d : Reg} {p : Ptr} (h : d = p.lo ∨ d = p.hi) :
    s.loadPtrDec d p = raise (.undefinedOperands s.pc.toNat) := by
  rw [State.loadPtrDec, State.requireDefined_of_true (isOwnReg_iff.2 h)]
  rfl

theorem State.loadPtrDec_defined {s : State} {d : Reg} {p : Ptr} (h : ¬ (d = p.lo ∨ d = p.hi)) :
    s.loadPtrDec d p = (s.ptrSet p (decremented s p)).loadReg d (decremented s p % 2 ^ s.cfg.dsBits) >>= fun u =>
      .ok (u.advance 1) := by
  rw [State.loadPtrDec, State.requireDefined_of_not (isOwnReg_iff.not.2 h)]
  rfl

/-- The post-increment form: the load, then the pointer write, which leaves Rd alone. -/
theorem State.loadPtrInc_loads {s : State} {d : Reg} {p : Ptr} {v : Byte} (hd : s.hasReg d = true)
    (h : ¬ (d = p.lo ∨ d = p.hi)) (hbyte : dataByte s (s.ptrGet p % 2 ^ s.cfg.dsBits) = some v) :
    ∃ t, finish (s.loadPtrInc d p) = .next t ∧
      LoadedWithUpdate p (displaced s p 1) d v (envAfterRead s (s.ptrGet p % 2 ^ s.cfg.dsBits)) s t := by
  have hok : s.loadPtrInc d p = .ok ((((s.setEnv (envAfterRead s (s.ptrGet p % 2 ^ s.cfg.dsBits))).setReg d v).ptrSet p
      (displaced s p 1)).advance 1) := by
    rw [State.loadPtrInc_defined h, State.loadReg_of_dataByte hd hbyte]
    rfl
  obtain ⟨hlo, hhi⟩ := not_or.1 h
  have hload := s.setReg_loadedInto d v (envAfterRead s (s.ptrGet p % 2 ^ s.cfg.dsBits))
  refine ⟨_, finish_next.2 hok, ?_, hload.pointerIs (Ne.symm hhi) (State.ptrSet_pointerIs _ p _),
    (hload.pointerFrame p).trans (State.ptrSet_pointerFrame _ p _), State.ptrSet_env _ p _,
    (State.loadPtrInc_completes hok).pcAdvanced⟩
  exact (State.ptrSet_reg_of_ne _ _ hlo hhi).trans (State.setReg_reg_self _ d v)

/-- What a read leaves of the surroundings depends on them and on the configuration alone. -/
theorem envAfterRead_congr {s t : State} (hcfg : t.cfg = s.cfg) (henv : t.env = s.env) (a : Nat) :
    envAfterRead t a = envAfterRead s a := by
  unfold envAfterRead envAfterIoRead
  rw [hcfg, henv]

/-- The pre-decrement form: the pointer write, then the load, which leaves the pointer alone. -/
theorem State.loadPtrDec_loads {s : State} {d : Reg} {p : Ptr} {v : Byte} (hd : s.hasReg d = true)
    (h : ¬ (d = p.lo ∨ d = p.hi))
    (hbyte : dataByte (s.ptrSet p (decremented s p)) (decremented s p % 2 ^ s.cfg.dsBits) = some v) :
    ∃ t, finish (s.loadPtrDec d p) = .next t ∧
      LoadedWithUpdate p (decremented s p) d v (envAfterRead s (decremented s p % 2 ^ s.cfg.dsBits)) s t := by
  have hok : s.loadPtrDec d p = .ok ((((s.ptrSet p (decremented s p)).setEnv
      (envAfterRead s (decremented s p % 2 ^ s.cfg.dsBits))).setReg d v).advance 1) := by
    have hd' : (s.ptrSet p (decremented s p)).hasReg d = true := (State.hasReg_of_cfg (s.ptrSet_cfg p _) d).trans hd
    rw [State.loadPtrDec_defined h, State.loadReg_of_dataByte hd' hbyte,
      envAfterRead_congr (s.ptrSet_cfg p _) (s.ptrSet_env p _)]
    rfl
  obtain ⟨hlo, hhi⟩ := not_or.1 h
  have hload := (s.ptrSet p (decremented s p)).setReg_loadedInto d v
    (envAfterRead s (decremented s p % 2 ^ s.cfg.dsBits))
  exact ⟨_, finish_next.2 hok, State.setReg_reg_self _ d v,
    (s.ptrSet_pointerIs p _).load hload (Ne.symm hlo) (Ne.symm hhi),
    (s.ptrSet_pointerFrame p _).trans (hload.pointerFrame p), rfl, (State.loadPtrDec_completes hok).pcAdvanced⟩

/-- Settles O34: a load and a pointer write that do not meet, the destination being none of the pointer's registers. -/
theorem loadUpdateForms : Obligations.LoadUpdateForms := by
  intro d s hd
  have inc : ∀ p ∈ [(Instr.ldXInc d, Ptr.x), (Instr.ldYInc d, Ptr.y), (Instr.ldZInc d, Ptr.z)],
      exec p.1 s = finish (s.loadPtrInc d p.2) := by
    simp only [List.forall_mem_cons, List.not_mem_nil, false_implies, implies_true, and_true]
    exact ⟨rfl, rfl, rfl⟩
  have dec : ∀ p ∈ [(Instr.ldXDec d, Ptr.x), (Instr.ldYDec d, Ptr.y), (Instr.ldZDec d, Ptr.z)],
      exec p.1 s = finish (s.loadPtrDec d p.2) := by
    simp only [List.forall_mem_cons, List.not_mem_nil, false_implies, implies_true, and_true]
    exact ⟨rfl, rfl, rfl⟩
  refine ⟨fun p hp => ?_, fun p hp => ?_⟩
  · rw [inc p hp]
    split
    next own => rw [State.loadPtrInc_undefined own]; rfl
    next apart => exact fun v => State.loadPtrInc_loads hd apart
  · rw [dec p hp]
    split
    next own => rw [State.loadPtrDec_undefined own]; rfl
    next apart => exact fun v => State.loadPtrDec_loads hd apart

/-! ### Stores that update the pointer -/

/-- The operands a store with update stops on: a source among the pointer's registers, or an address that is one. -/
def StoreUndefined (r : Reg) (p : Ptr) (a : Nat) (s : State) : Prop :=
  r = p.lo ∨ r = p.hi ∨ dsMap s.cfg a = .reg p.lo ∨ dsMap s.cfg a = .reg p.hi

theorem storeUndefined_iff {r : Reg} {p : Ptr} {a : Nat} {s : State} :
    StoreUndefined r p a s ↔ isOwnReg p r = true ∨ landsOnOwnReg s.cfg p a = true := by
  rw [StoreUndefined, isOwnReg_iff, landsOnOwnReg_iff, or_assoc]

/-- The two tests of a store with update, and what comes after them. -/
def State.requireStore {α : Type} (s : State) (r : Reg) (p : Ptr) (a : Nat) (x : Res α) : Res α := do
  s.requireDefined (isOwnReg p r)
  s.requireDefined (landsOnOwnReg s.cfg p a)
  x

theorem State.requireStore_undefined {α : Type} {s : State} {r : Reg} {p : Ptr} {a : Nat} (h : StoreUndefined r p a s)
    (x : Res α) : s.requireStore r p a x = raise (.undefinedOperands s.pc.toNat) := by
  unfold State.requireStore
  by_cases own : isOwnReg p r = true
  · rw [State.requireDefined_of_true own]
    rfl
  · rw [State.requireDefined_of_not own,
      State.requireDefined_of_true ((storeUndefined_iff.1 h).resolve_left own)]
    rfl

theorem State.requireStore_defined {α : Type} {s : State} {r : Reg} {p : Ptr} {a : Nat} (h : ¬ StoreUndefined r p a s)
    (x : Res α) : s.requireStore r p a x = x := by
  rw [storeUndefined_iff, not_or] at h
  obtain ⟨own, lands⟩ := h
  rw [State.requireStore, State.requireDefined_of_not own, State.requireDefined_of_not lands]
  rfl

theorem State.storePtrInc_eq (s : State) (r : Reg) (p : Ptr) :
    s.storePtrInc r p = s.requireStore r p (s.ptrGet p % 2 ^ s.cfg.dsBits) (do
      let u ← s.storeReg r (s.ptrGet p % 2 ^ s.cfg.dsBits)
      .ok ((u.ptrSet p (ptrAdd u.cfg p (s.ptrGet p) 1)).advance 1)) := rfl

theorem State.storePtrDec_eq (s : State) (r : Reg) (p : Ptr) :
    s.storePtrDec r p = s.requireStore r p (decremented s p % 2 ^ s.cfg.dsBits) (do
      let u ← (s.ptrSet p (decremented s p)).storeReg r (decremented s p % 2 ^ s.cfg.dsBits)
      .ok (u.advance 1)) := rfl

/-- The post-increment form: the store, then the pointer write on what the store left. -/
theorem State.storePtrInc_stores {s : State} {r : Reg} {p : Ptr} (hr : s.hasReg r = true)
    (h : ¬ StoreUndefined r p (s.ptrGet p % 2 ^ s.cfg.dsBits) s)
    (hwritable : writable s (s.ptrGet p % 2 ^ s.cfg.dsBits) = true) :
    ∃ u t, StoredAt (s.ptrGet p % 2 ^ s.cfg.dsBits) (s.reg r) s u ∧ finish (s.storePtrInc r p) = .next t ∧
      PointerIs p (displaced s p 1) u t ∧ PointerFrame p [] u t ∧ t.env = u.env ∧ PcAdvanced 1 s t := by
  have hstore := State.storeReg_of_writable hr hwritable
  generalize hu : s.stored (s.ptrGet p % 2 ^ s.cfg.dsBits) (s.reg r) = u at hstore
  have hok : s.storePtrInc r p = .ok ((u.ptrSet p (displaced s p 1)).advance 1) := by
    rw [State.storePtrInc_eq, State.requireStore_defined h, hstore, Res.pure_bind, ptrAdd,
      (KeptInPlace.storeReg hstore).kept.cfg]
    rfl
  exact ⟨u, _, hu ▸ State.storedAt_stored hwritable _, finish_next.2 hok, u.ptrSet_pointerIs p _,
    u.ptrSet_pointerFrame p _, u.ptrSet_env p _, (State.storePtrInc_completes hok).pcAdvanced⟩

/-- The pre-decrement form: the pointer write, which leaves the source alone, then the store. -/
theorem State.storePtrDec_stores {s : State} {r : Reg} {p : Ptr} (hr : s.hasReg r = true)
    (h : ¬ StoreUndefined r p (decremented s p % 2 ^ s.cfg.dsBits) s)
    (hwritable : writable (s.ptrSet p (decremented s p)) (decremented s p % 2 ^ s.cfg.dsBits) = true) :
    ∃ u, StoredAt (decremented s p % 2 ^ s.cfg.dsBits) (s.reg r) (s.ptrSet p (decremented s p)) u ∧
      finish (s.storePtrDec r p) = .next (u.advance 1) := by
  have hr' : (s.ptrSet p (decremented s p)).hasReg r = true := (State.hasReg_of_cfg (s.ptrSet_cfg p _) r).trans hr
  have hsource : (s.ptrSet p (decremented s p)).reg r = s.reg r := by
    rw [StoreUndefined, not_or, not_or] at h
    obtain ⟨hlo, hhi, -⟩ := h
    exact s.ptrSet_reg_of_ne _ hlo hhi
  rw [← hsource]
  refine ⟨_, State.storedAt_stored hwritable _, ?_⟩
  rw [State.storePtrDec_eq, State.requireStore_defined h, State.storeReg_of_writable hr' hwritable]
  rfl

/-- Settles O36: a store and a pointer write that do not meet, neither the source nor the address being one of the
pointer's registers. -/
theorem storeUpdateForms : Obligations.StoreUpdateForms := by
  intro r s hr
  have inc : ∀ p ∈ [(Instr.stXInc r, Ptr.x), (Instr.stYInc r, Ptr.y), (Instr.stZInc r, Ptr.z)],
      exec p.1 s = finish (s.storePtrInc r p.2) := by
    simp only [List.forall_mem_cons, List.not_mem_nil, false_implies, implies_true, and_true]
    exact ⟨rfl, rfl, rfl⟩
  have dec : ∀ p ∈ [(Instr.stXDec r, Ptr.x), (Instr.stYDec r, Ptr.y), (Instr.stZDec r, Ptr.z)],
      exec p.1 s = finish (s.storePtrDec r p.2) := by
    simp only [List.forall_mem_cons, List.not_mem_nil, false_implies, implies_true, and_true]
    exact ⟨rfl, rfl, rfl⟩
  refine ⟨fun p hp => ?_, fun p hp => ?_⟩
  · rw [inc p hp]
    split
    next undefined =>
      rw [State.storePtrInc_eq, State.requireStore_undefined undefined]
      rfl
    next defined => exact State.storePtrInc_stores hr defined
  · rw [dec p hp]
    split
    next undefined =>
      rw [State.storePtrDec_eq, State.requireStore_undefined undefined]
      rfl
    next defined =>
      exact ⟨_, s.ptrSet_pointerIs p.2 _, s.ptrSet_pointerFrame p.2 _, s.ptrSet_env p.2 _, s.ptrSet_pc p.2 _,
        State.storePtrDec_stores hr defined⟩

end Sys2Proof.Machine
end

section
/-! I/O space, the stack and the read-modify-write instructions: what each of them moves between a register and memory. -/

namespace Sys2Proof.Machine

/-! ### I/O space -/

/-- IN: the byte of the I/O location goes to Rd, or the read stops (43_data_transfer.md R311). -/
theorem exec_in_eq {d : Reg} {s : State} (hd : s.hasReg d = true) (A : BitVec 6) :
    exec (.in_ d A) s = finish (readResult (ioByte s A.toNat) (s.setEnv (envAfterIoRead s A.toNat))
      (.unmappedAccess .io A.toNat) >>= fun p => .ok ((p.2.setReg d p.1).advance 1)) := by
  change finish (s.ioRead A.toNat >>= fun p => p.2.writeReg d p.1 >>= fun u => pure (u.advance 1)) = _
  rw [State.ioRead_eq]
  cases ioByte s A.toNat with
  | some v =>
    have hd' : (s.setEnv (envAfterIoRead s A.toNat)).hasReg d = true := hd
    simp only [readResult, Res.pure_bind, State.writeReg_of_hasReg v hd']
    rfl
  | none => rfl

/-- OUT: Rr goes to the I/O location (43_data_transfer.md R312). -/
theorem exec_out_eq {d : Reg} {s : State} (hd : s.hasReg d = true) (A : BitVec 6) :
    exec (.out A d) s = finish (s.ioWrite A.toNat (s.reg d) >>= fun u => pure (u.advance 1)) := by
  change finish (s.readReg d >>= _) = _
  rw [State.readReg_of_hasReg hd]
  rfl

/-- Settles O38: both are one access to I/O space, which `DS_MAP` has no part in. -/
theorem inOutForms : Obligations.InOutForms := by
  intro d A s hd
  rw [exec_in_eq hd, exec_out_eq hd]
  constructor
  · cases ioByte s A.toNat with
    | some v => exact s.setReg_advance_loads d v _ 1
    | none => rfl
  · rw [State.ioWrite]
    cases cpuIoAt s.cfg A.toNat with
    | some r => rfl
    | none =>
      simp only [State.periphWrite_eq]
      split <;> rfl

/-! ### The stack -/

theorem exec_push_of_ok {r : Reg} {s u : State} (hr : s.hasReg r = true) (h : s.push (s.reg r) = .ok u) :
    exec (.push r) s = .next (u.advance 1) := by
  change finish (s.readReg r >>= fun v => s.push v >>= fun u => pure (u.advance 1)) = _
  rw [State.readReg_of_hasReg hr, Res.pure_bind, h]
  rfl

theorem exec_pop_of_ok {d : Reg} {s u : State} {v : Byte} (h : s.pop = .ok (v, u)) (hd : u.hasReg d = true) :
    exec (.pop d) s = .next ((u.setReg d v).advance 1) := by
  change finish (s.pop >>= fun p => p.2.writeReg d p.1 >>= fun u => pure (u.advance 1)) = _
  rw [h, Res.pure_bind, State.writeReg_of_hasReg v hd]
  rfl

/-- With room for one byte, POP after PUSH: the byte is below the Stack Pointer, which is back where it was. -/
theorem exec_push_pop {d r : Reg} {s : State} (hd : s.hasReg d = true) (hr : s.hasReg r = true) (room : StackRoom s 1) :
    ∃ t u, exec (.push r) s = .next t ∧ exec (.pop d) t = .next u ∧ u.reg d = s.reg r ∧ u.sp = s.sp ∧
      RegsKeptBut [d] s u ∧ u.sreg = s.sreg ∧ ∀ a, a ≠ s.sp.toNat → u.sramByte a = s.sramByte a := by
  have ⟨hwidth, _, hsp, hsram⟩ := room
  obtain ⟨w, hpush, hpushed⟩ := (Pushed.zero (fun _ => s.reg r) hsp).push room Nat.one_pos
  have hcfg := hpushed.frame.cfg
  have habove : stackAbove (w.advance 1) 1 = stackBelow s 0 := stackAbove_of_pushed hcfg hpushed.sp le_rfl
  have hpop : (w.advance 1).pop = .ok (s.reg r, (w.advance 1).raiseSp 1) := by
    refine State.pop_of_sram (hcfg ▸ hwidth) ?_ ?_
    · rw [habove, State.advance_cfg, hcfg]
      exact hsram 0 Nat.one_pos
    · rw [habove, State.advance_sramByte]
      exact hpushed.byte 0 Nat.one_pos
  have hother : ∀ a, a ≠ s.sp.toNat → w.sramByte a = s.sramByte a := fun a ha =>
    hpushed.other a fun k hk => by rwa [Nat.lt_one_iff.1 hk, stackBelow_zero hsp]
  have hback : ((w.advance 1).raiseSp 1).sp = s.sp := hpushed.raiseSp_sp room _
  refine ⟨_, _, exec_push_of_ok hr hpush, exec_pop_of_ok hpop ((State.hasReg_of_cfg hcfg d).trans hd),
    State.setReg_reg_self _ _ _, hback, ?_, ?_, hother⟩
  · obtain ⟨_, _, rfl⟩ := hpushed.frame
    exact fun i hi => State.setReg_reg_of_ne _ _ (List.ne_of_not_mem_cons hi)
  · obtain ⟨_, _, rfl⟩ := hpushed.frame
    rfl

/-- Settles O39: PUSH is one store at the Stack Pointer, POP one load at the raised one. -/
theorem pushPopForms : Obligations.PushPopForms := by
  intro d r s hd hr
  refine ⟨fun hwritable => ?_, fun v hbyte => ?_, exec_push_pop hd hr⟩
  · have hwrite := (State.memWrite_eq s s.sp.toNat (s.reg r)).trans (if_pos hwritable)
    exact ⟨_, State.storedAt_stored hwritable _, exec_push_of_ok hr (State.push_ok.2 ⟨_, hwrite, rfl⟩)⟩
  · have hread := State.memRead_eq (s.setSp ((s.sp.toNat : Int) + 1)) (s.setSp ((s.sp.toNat : Int) + 1)).sp.toNat
    rw [hbyte] at hread
    exact ⟨_, exec_pop_of_ok (State.pop_ok.2 hread) hd, State.setReg_loadedInto _ d v _, State.advance_pcAdvanced s 1⟩

/-! ### Read, modify, write -/

theorem State.readModifyWrite_outside {s : State} (h : dsMap s.cfg (s.ptrGet .z % 2 ^ s.cfg.dsBits) ≠ .sram) (d : Reg)
    (f : Byte → Byte → Byte) :
    s.readModifyWrite d f = raise (.rmwOutsideSram (s.ptrGet .z % 2 ^ s.cfg.dsBits)) :=
  if_neg h

/-- On SRAM both operands are read before either is written (43_data_transfer.md R319). -/
theorem State.readModifyWrite_of_sram {s : State} {d : Reg} {a : Nat} {old : Byte} (hd : s.hasReg d = true)
    (ha : ea s.cfg (s.ptrGet .z) = a) (hmap : dsMap s.cfg a = .sram) (hold : s.sramByte a = some old)
    (f : Byte → Byte → Byte) :
    s.readModifyWrite d f = .ok (((s.setSramByte a (f old (s.reg d))).setReg d old).advance 1) := by
  have hread : s.memRead a = .ok (old, s) := by
    rw [State.memRead, hmap]
    simp only [State.sramRead, hold]
    rfl
  have hwrite (v : Byte) : s.memWrite a v = .ok (s.setSramByte a v) := by
    rw [State.memWrite, hmap]
  have hd' (v : Byte) : (s.setSramByte a v).hasReg d = true := hd
  simp only [State.readModifyWrite, ha, hmap, if_true, hread, hwrite, State.readReg_of_hasReg hd, Res.pure_bind,
    State.writeReg_of_hasReg old (hd' _)]
  rfl

/-- Settles O40: the four differ in the function of both bytes alone. -/
theorem readModifyWriteForms : Obligations.ReadModifyWriteForms := by
  intro d s hd
  constructor
  · intro old hmap hold p hp
    have hform : ∃ f, exec p.1 s = finish (s.readModifyWrite d f) ∧ f old (s.reg d) = p.2 := by
      revert p
      simp only [List.forall_mem_cons, List.not_mem_nil, false_implies, implies_true, and_true]
      exact ⟨⟨_, rfl, rfl⟩, ⟨_, rfl, BitVec.or_comm ..⟩, ⟨_, rfl, BitVec.and_comm ..⟩, ⟨_, rfl, BitVec.xor_comm ..⟩⟩
    obtain ⟨f, hexec, hf⟩ := hform
    rw [hexec, State.readModifyWrite_of_sram hd rfl hmap hold, hf]
    exact ⟨_, rfl, State.setReg_reg_self _ _ _, State.sramByte_setSramByte_self s _ _,
      fun a ha => State.sramByte_setSramByte_of_ne s _ ha,
      fun i hi => State.setReg_reg_of_ne _ _ (List.ne_of_not_mem_cons hi), rfl, rfl, ⟨rfl, rfl, rfl, rfl, rfl⟩,
      .refl s, fun _ => rfl, rfl, s.advance_pcAdvanced 1⟩
  · intro hmap i hi
    have hform : ∃ f, exec i s = finish (s.readModifyWrite d f) := by
      revert i
      simp only [List.forall_mem_cons, List.not_mem_nil, false_implies, implies_true, and_true]
      exact ⟨⟨_, rfl⟩, ⟨_, rfl⟩, ⟨_, rfl⟩, ⟨_, rfl⟩⟩
    obtain ⟨f, hexec⟩ := hform
    rw [hexec, State.readModifyWrite_outside hmap]
    rfl

end Sys2Proof.Machine
end

section
/-! Loads from program memory: the byte at Z or RAMPZ:Z, the pointer write of the forms with update, and the refusal of
SPM. -/

namespace Sys2Proof.Machine

/-! ### The byte of program space -/

/-- The two halves of a word are the bytes at its even and at its odd address (20_memory.md R81, R98). -/
theorem programByte_eq (s : State) (b : Nat) : programByte s b = s.flashByte b := by
  unfold programByte State.flashWord
  split
  next even =>
    rw [BitVec.extractLsb'_append_eq_right, Nat.mul_div_cancel' (Nat.dvd_of_mod_eq_zero even)]
  next odd =>
    have hodd : 2 * (b / 2) + 1 = b := by omega
    rw [BitVec.extractLsb'_append_eq_left, hodd]

theorem State.loadProg_of_inside {s : State} {d : Reg} {b : Nat} (hd : s.hasReg d = true)
    (h : b / 2 ≤ s.cfg.flashEnd) : s.loadProg d b = .ok (s.setReg d (programByte s b)) :=
  State.loadProg_ok.2 ⟨h, hd, by rw [programByte_eq]⟩

theorem State.loadProg_of_beyond {s : State} {b : Nat} (d : Reg) (h : ¬ b / 2 ≤ s.cfg.flashEnd) :
    s.loadProg d b = raise (.unmappedAccess .program b) := by
  rw [State.loadProg, State.progByte, if_pos (Nat.lt_of_not_le h)]
  rfl

/-- The forms that leave the pointer: one load, then `pc <- pc + 1`. -/
theorem State.loadProg_answers {s : State} {d : Reg} (hd : s.hasReg d = true) (b : Nat) :
    ProgramLoadAnswers d b s (finish (s.loadProg d b >>= fun u => pure (u.advance 1))) := by
  unfold ProgramLoadAnswers
  split
  next inside =>
    rw [State.loadProg_of_inside hd inside]
    exact ⟨_, rfl, State.setReg_reg_self s d _, State.setReg_frame s d _, rfl, State.advance_pcAdvanced s 1⟩
  next beyond =>
    rw [State.loadProg_of_beyond d beyond]
    rfl

/-! ### The forms with update -/

/-- The common shape of LPM Rd,Z+ and ELPM Rd,Z+: the test of Rd, the load, then the pointer write `update`. -/
def State.loadProgInc (s : State) (d : Reg) (b : Nat) (update : State → State) : Res State := do
  s.requireDefined (isOwnReg .z d)
  let u ← s.loadProg d b
  pure ((update u).advance 1)

theorem execLpmZInc_eq (d : Reg) (s : State) :
    execLpmZInc d s = finish (s.loadProgInc d s.zWord fun u => u.setZWord ((s.zWord + 1) % 2 ^ 16)) := rfl

theorem execElpmZInc_eq (d : Reg) (s : State) :
    execElpmZInc d s = finish (s.loadProgInc d s.zExt fun u => u.setZExt ((s.zExt + 1) % 2 ^ zExtBits u.cfg)) := rfl

/-- What a load with update from program memory into Rd answers: `o`, a state that meets `post` where it does not stop
(44_program_memory.md R342, R345; the stops are decisions D16 and D17). -/
def ProgramUpdateAnswers (d : Reg) (b : Nat) (s : State) (post : State → Prop) (o : StepOutcome) : Prop :=
  if d = 30 ∨ d = 31 then o = .fault (.undefinedOperands s.pc.toNat)
  else if b / 2 ≤ s.cfg.flashEnd then ∃ t, o = .next t ∧ post t
  else o = .fault (.unmappedAccess .program b)

theorem State.loadProgInc_answers {s : State} {d : Reg} (hd : s.hasReg d = true) (b : Nat) {update : State → State}
    {post : State → Prop}
    (hpost : d ≠ 30 → d ≠ 31 → post ((update (s.setReg d (programByte s b))).advance 1)) :
    ProgramUpdateAnswers d b s post (finish (s.loadProgInc d b update)) := by
  unfold ProgramUpdateAnswers State.loadProgInc
  split
  next own =>
    rw [State.requireDefined_of_true (isOwnReg_iff.2 own)]
    rfl
  next apart =>
    obtain ⟨hlo, hhi⟩ := not_or.1 apart
    rw [State.requireDefined_of_not (isOwnReg_iff.not.2 apart)]
    split
    next inside =>
      rw [State.loadProg_of_inside hd inside]
      exact ⟨_, rfl, hpost hlo hhi⟩
    next beyond =>
      rw [State.loadProg_of_beyond d beyond]
      rfl

/-! ### Z -/

theorem State.setZWord_frame (s : State) (v : Nat) : RegisterFrame [30, 31] s (s.setZWord v) :=
  (s.setReg_frame 30 _).trans (State.setReg_frame _ 31 _)

theorem State.setZWord_reg_of_ne (s : State) (v : Nat) {i : Reg} (hlo : i ≠ 30) (hhi : i ≠ 31) :
    (s.setZWord v).reg i = s.reg i :=
  (State.setReg_reg_of_ne _ _ hhi).trans (State.setReg_reg_of_ne _ _ hlo)

theorem State.pairValue_setZWord (s : State) (v : Nat) : pairValue (s.setZWord v) 30 = BitVec.ofNat 16 v := by
  have hhi : (s.setZWord v).reg 31 = BitVec.ofNat 8 (v / 256) := State.setReg_reg_self _ 31 _
  have hlo : (s.setZWord v).reg 30 = BitVec.ofNat 8 v :=
    (State.setReg_reg_of_ne _ _ (by decide)).trans (State.setReg_reg_self s 30 _)
  apply BitVec.eq_of_toNat_eq
  calc (pairValue (s.setZWord v) 30).toNat
      = ((s.setZWord v).reg 31).toNat * 256 + ((s.setZWord v).reg 30).toNat := toNat_append_byte _ _
    _ = v / 256 % 2 ^ 8 * 256 + v % 2 ^ 8 := by rw [hhi, hlo, BitVec.toNat_ofNat, BitVec.toNat_ofNat]
    _ = v % 2 ^ 16 := by omega
    _ = (BitVec.ofNat 16 v).toNat := (BitVec.toNat_ofNat v 16).symm

/-- Z + 1 modulo 2^16 is the sum of words (44_program_memory.md R342). -/
theorem ofNat_zWord_succ (s : State) : BitVec.ofNat 16 ((s.zWord + 1) % 2 ^ 16) = pairValue s 30 + 1 := by
  apply BitVec.eq_of_toNat_eq
  rw [BitVec.toNat_ofNat, Nat.mod_mod, State.zWord_eq, BitVec.toNat_add]
  rfl

/-- Settles O44: one load at Z, and after it, with update, a write of Z that does not meet Rd. -/
theorem lpmForms : Obligations.LpmForms := by
  intro d s hd
  rw [show lpmAddress s = s.zWord from s.zWord_eq.symm]
  refine ⟨fun h0 => State.loadProg_answers h0 s.zWord, State.loadProg_answers hd s.zWord, ?_⟩
  change ProgramUpdateAnswers d s.zWord s _ (execLpmZInc d s)
  rw [execLpmZInc_eq]
  refine State.loadProgInc_answers hd s.zWord fun hlo hhi => ⟨?_, ?_, ?_, rfl, State.advance_pcAdvanced s 1⟩
  · exact (State.setZWord_reg_of_ne _ _ hlo hhi).trans (State.setReg_reg_self s d _)
  · exact (State.pairValue_setZWord _ _).trans (ofNat_zWord_succ s)
  · exact (s.setReg_frame d _).trans (State.setZWord_frame _ _)

/-! ### RAMPZ:Z -/

theorem State.zExt_eq (s : State) : s.zExt = elpmAddress s := by
  rw [State.zExt, elpmAddress, State.zWord_eq]

theorem State.setZExt_of_ramp {s : State} (h : s.cfg.hasRampZ = true) (v : Nat) :
    s.setZExt v = (s.setZWord v).setRampz (BitVec.ofNat 8 (v / 65536)) := if_pos h

theorem State.setZExt_of_no_ramp {s : State} (h : s.cfg.hasRampZ = false) (v : Nat) : s.setZExt v = s.setZWord v :=
  if_neg (Bool.eq_false_iff.1 h)

theorem State.setZExt_reg_of_ne (s : State) (v : Nat) {i : Reg} (hlo : i ≠ 30) (hhi : i ≠ 31) :
    (s.setZExt v).reg i = s.reg i := by
  cases h : s.cfg.hasRampZ with
  | true => rw [State.setZExt_of_ramp h, State.setRampz_reg, s.setZWord_reg_of_ne v hlo hhi]
  | false => rw [State.setZExt_of_no_ramp h, s.setZWord_reg_of_ne v hlo hhi]

theorem State.setZExt_sreg (s : State) (v : Nat) : (s.setZExt v).sreg = s.sreg := by
  unfold State.setZExt
  split <;> rfl

/-- An absent RAMPZ is not written (44_program_memory.md R346, decision D35). -/
theorem State.setZExt_rampz_of_no_ramp {s : State} (h : s.cfg.hasRampZ = false) (v : Nat) :
    (s.setZExt v).rampz = s.rampz := by
  rw [State.setZExt_of_no_ramp h]
  rfl

/-- Beside RAMPZ, `ZExtSet` changes R30 and R31 alone. -/
theorem State.setZExt_frame (s : State) (v : Nat) :
    RegisterFrame [30, 31] (s.setRampz (s.setZExt v).rampz) (s.setZExt v) := by
  cases h : s.cfg.hasRampZ with
  | true =>
    rw [State.setZExt_of_ramp h]
    exact (s.setRampz _).setZWord_frame v
  | false =>
    rw [State.setZExt_of_no_ramp h]
    exact s.setZWord_frame v

/-- What `ZExtSet` writes is read back at the width of the pointer (44_program_memory.md R346). -/
theorem State.elpmAddress_setZExt (s : State) (v : Nat) : elpmAddress (s.setZExt v) = v % 2 ^ zExtBits s.cfg := by
  have hz : (pairValue (s.setZWord v) 30).toNat = v % 2 ^ 16 := by rw [State.pairValue_setZWord, BitVec.toNat_ofNat]
  cases h : s.cfg.hasRampZ with
  | true =>
    calc elpmAddress (s.setZExt v)
        = (BitVec.ofNat 8 (v / 65536)).toNat * 65536 + (pairValue (s.setZWord v) 30).toNat := by
          rw [State.setZExt_of_ramp h]
          exact if_pos h
      _ = v % 2 ^ 24 := by rw [hz, BitVec.toNat_ofNat]; omega
      _ = v % 2 ^ zExtBits s.cfg := by rw [zExtBits, if_pos h]
  | false =>
    have hno := Bool.eq_false_iff.1 h
    calc elpmAddress (s.setZExt v) = (pairValue (s.setZWord v) 30).toNat := by
          rw [State.setZExt_of_no_ramp h]
          exact if_neg hno
      _ = v % 2 ^ zExtBits s.cfg := by rw [hz, zExtBits, if_neg hno]

theorem two_pow_zExtBits (cfg : Config) : 2 ^ zExtBits cfg = if cfg.hasRampZ then 2 ^ 24 else 2 ^ 16 := by
  unfold zExtBits
  split <;> rfl

/-- Settles O45: one load at RAMPZ:Z, and after it, with update, a write of RAMPZ:Z that does not meet Rd. (The name
`elpmForms` is that of a list of the device tables.) -/
theorem elpmForms_hold : Obligations.ElpmForms := by
  intro d s hd
  rw [← s.zExt_eq]
  refine ⟨fun h0 => State.loadProg_answers h0 s.zExt, State.loadProg_answers hd s.zExt, ?_⟩
  change ProgramUpdateAnswers d s.zExt s _ (execElpmZInc d s)
  rw [execElpmZInc_eq]
  refine State.loadProgInc_answers hd s.zExt fun hlo hhi => ⟨?_, ?_, ?_, ?_, ?_, ?_⟩
  · exact (State.setZExt_reg_of_ne _ _ hlo hhi).trans (State.setReg_reg_self s d _)
  · rw [← two_pow_zExtBits]
    exact (State.elpmAddress_setZExt _ _).trans (Nat.mod_mod _ _)
  · exact (State.setReg_frame _ d _).trans (State.setZExt_frame _ _)
  · exact fun h => State.setZExt_rampz_of_no_ramp (s := s.setReg d _) h _
  · exact State.setZExt_sreg _ _
  · have hwrite := KeptInPlace.writeReg (State.writeReg_of_hasReg (programByte s s.zExt) hd)
    exact Completes.pcAdvanced ⟨_, hwrite.trans (KeptInPlace.setZExt _ _), rfl⟩

/-! ### SPM -/

/-- Settles O46: both arms are the refusal of R351, which reads nothing of the state. -/
theorem spmRefused : Obligations.SpmRefused := fun _ => ⟨rfl, rfl⟩

end Sys2Proof.Machine
end

section
/-! Program memory during a run: the state a run starts in, and what no step changes. -/

namespace Sys2Proof.Machine

/-! ### The start of a run -/

theorem accepted_reset {cfg : Config} (h : accepted cfg = true) :
    cfg.resetPc < 2 ^ cfg.pcBits ∧ cfg.resetSp < 2 ^ cfg.spBits := by
  simp only [accepted, inRange, Bool.and_eq_true, decide_eq_true_eq] at h
  omega

/-- The state after reset of an accepted device meets the invariant (70_reset_and_hazards.md R450). -/
theorem State.resetOf_inv {cfg : Config} (h : accepted cfg = true) : (State.resetOf cfg).Inv := by
  obtain ⟨hpc, hsp⟩ := accepted_reset h
  exact ⟨h, (Nat.mod_le _ _).trans_lt hpc, (Nat.mod_le _ _).trans_lt hsp, Memory.nil_wf _, Memory.nil_wf _, nofun⟩

theorem State.Inv.loadImage {s : State} (h : s.Inv) (image : List Word) : (s.loadImage image).Inv := by
  obtain ⟨hcfg, hpc, hsp, hdata, -, hsram⟩ := h
  exact ⟨hcfg, hpc, hsp, hdata, s.loadImage_wf image, hsram⟩

theorem State.launch_of_accepted {cfg : Config} {image : List Word} (h : accepted cfg = true)
    (hlen : image.length = cfg.flashEnd + 1) : State.launch cfg image = some ((State.resetOf cfg).loadImage image) :=
  if_pos ⟨h, hlen⟩

/-! ### The steps of a run -/

/-- A boundary changes neither program memory nor the configuration. -/
theorem State.boundary_program (s : State) : s.boundary.state.pmem = s.pmem ∧ s.boundary.state.cfg = s.cfg := by
  obtain hsame | ⟨e, he⟩ := s.boundary_state
  · rw [hsame]
    exact ⟨rfl, rfl⟩
  · rw [he]
    exact ⟨rfl, rfl⟩

/-- No step changes program memory or the configuration: neither the boundary, nor interrupt entry, nor any instruction
(SPM is refused). -/
theorem step_program {s t : State} (h : step s = .next t) : t.pmem = s.pmem ∧ t.cfg = s.cfg := by
  obtain ⟨hpmem, hcfg⟩ := s.boundary_program
  obtain rfl | ⟨v, hentry⟩ | ⟨i, -, hexec⟩ := step_next_cases h
  · exact ⟨hpmem, hcfg⟩
  · have hkept := State.interruptEntry_kept hentry
    exact ⟨hkept.pmem.trans hpmem, hkept.cfg.trans hcfg⟩
  · have hkept := exec_kept hexec
    exact ⟨hkept.pmem.trans hpmem, hkept.cfg.trans hcfg⟩

theorem Reaches.pmem {s t : State} (h : Reaches s t) : t.pmem = s.pmem := by
  induction h with
  | start => rfl
  | step _ hstep ih =>
    obtain ⟨hpmem, -⟩ := step_program hstep
    exact hpmem.trans ih

theorem FlashKept.flashWord {s t : State} (h : FlashKept s t) (a : Nat) : t.flashWord a = s.flashWord a := by
  rw [State.flashWord, State.flashWord, h, h]

/-- Settles O52: an image is read back after it is loaded, and program memory stays as loaded along every run. -/
theorem programMemoryConstant : Obligations.ProgramMemoryConstant := by
  refine ⟨fun s t => step_program, fun cfg image hcfg hlen =>
    ⟨_, State.launch_of_accepted hcfg hlen, (State.resetOf_inv hcfg).loadImage image, rfl, fun t hreach a ha => ?_⟩⟩
  calc t.flashWord a = ((State.resetOf cfg).loadImage image).flashWord a :=
        (FlashKept.of_pmem hreach.pmem).flashWord a
    _ = image[a] := State.loadImage_flashWord _ image a ha

end Sys2Proof.Machine
end

section
/-! Shifts and rotations by one place: the shifted byte as a number, and the flags of the bit shifted out. -/

namespace Sys2Proof.Machine

/-! ### To the left -/

/-- A shift to the left with the carry in bit 0 doubles the byte (45_bit_and_bit_test.md R360, R362). -/
theorem Byte.toNat_shiftLeft_or_carryIn (v : Byte) (c : Bool) :
    (v <<< 1 ||| carryIn c).toNat = (2 * v.toNat + carryNat c) % 256 := by
  rw [← add_self_add_carryIn, Nat.two_mul]
  exact (isSum_add_carryIn v v c).toNat

theorem Byte.toNat_shiftLeft_one (v : Byte) : (v <<< 1).toNat = 2 * v.toNat % 256 := by
  rw [BitVec.toNat_shiftLeft, Nat.shiftLeft_eq, Nat.mul_comm]

theorem flagsOfShiftLeft_shiftLeftFlags (f : Sreg) (v r : Byte) : FlagsOfShiftLeft f (shiftLeftFlags f v r) v r :=
  ⟨rfl, rfl, Byte.getLsbD_seven r, rfl, rfl, rfl, rfl, rfl⟩

theorem State.oneReg_shiftsLeft {s : State} {d : Reg} (op : Byte → Byte) (hd : s.hasReg d = true) :
    ∃ t, finish (s.oneReg d fun v => (op v, shiftLeftFlags s.sreg v (op v))) = .next t ∧ t.reg d = op (s.reg d) ∧
      FlagsOfShiftLeft s.sreg t.sreg (s.reg d) (t.reg d) ∧ RegisterFrame [d] s t ∧ PcAdvanced 1 s t := by
  obtain ⟨t, ht, hreg, hsreg, hframe, hpc⟩ :=
    State.oneReg_writes (fun v => (op v, shiftLeftFlags s.sreg v (op v))) hd
  exact ⟨t, ht, hreg, by rw [hreg, hsreg]; exact flagsOfShiftLeft_shiftLeftFlags .., hframe, hpc⟩

/-- Settles O18: both forms double the byte, ROL with the old carry in bit 0. -/
theorem shiftLeftForms : Obligations.ShiftLeftForms := by
  intro d s hd
  constructor
  · obtain ⟨t, ht, hreg, hrest⟩ := State.oneReg_shiftsLeft (fun v => v <<< 1) hd
    exact ⟨t, ht, (congrArg BitVec.toNat hreg).trans (Byte.toNat_shiftLeft_one _), hrest⟩
  · obtain ⟨t, ht, hreg, hrest⟩ := State.oneReg_shiftsLeft (fun v => v <<< 1 ||| carryIn s.sreg.c) hd
    exact ⟨t, ht, (congrArg BitVec.toNat hreg).trans (Byte.toNat_shiftLeft_or_carryIn _ _), hrest⟩

/-! ### To the right -/

theorem Byte.toNat_ushiftRight_one (v : Byte) : (v >>> 1).toNat = v.toNat / 2 := by
  rw [BitVec.toNat_ushiftRight, Nat.shiftRight_eq_div_pow, pow_one]

/-- A shift to the right with the carry in bit 7 (45_bit_and_bit_test.md R363): the two parts have no bit in common. -/
theorem Byte.toNat_carryIn_or_ushiftRight (v : Byte) (c : Bool) :
    (carryIn c <<< 7 ||| v >>> 1).toNat = 128 * carryNat c + v.toNat / 2 := by
  have hcarry : (carryIn c <<< 7).toNat = carryNat c <<< 7 := by cases c <;> rfl
  have hhalf : v.toNat / 2 < 2 ^ 7 := by have := v.isLt; omega
  rw [BitVec.toNat_or, hcarry, Byte.toNat_ushiftRight_one, ← Nat.shiftLeft_add_eq_or_of_lt hhalf, Nat.shiftLeft_eq,
    Nat.mul_comm]

/-- A shift to the right that keeps bit 7 is the signed shift (45_bit_and_bit_test.md R364). -/
theorem Byte.sign_or_ushiftRight (v : Byte) : v &&& 0x80#8 ||| v >>> 1 = v.sshiftRight 1 := by
  have hsign : (0x80#8 : Byte) = BitVec.twoPow 8 7 := rfl
  refine BitVec.eq_of_getLsbD_eq fun i hi => ?_
  rw [hsign, BitVec.getLsbD_or, BitVec.getLsbD_and, BitVec.getLsbD_twoPow, BitVec.getLsbD_ushiftRight,
    BitVec.getLsbD_sshiftRight, BitVec.msb_eq_getLsbD_last]
  rcases Nat.lt_or_ge i 7 with hlow | htop
  · have hne : 7 ≠ i := by omega
    have hnext : 1 + i < 8 := by omega
    simp [hi, hne, hnext]
  · obtain rfl : i = 7 := by omega
    simp

theorem Byte.toInt_sign_or_ushiftRight (v : Byte) : (v &&& 0x80#8 ||| v >>> 1).toInt = v.toInt / 2 := by
  rw [Byte.sign_or_ushiftRight, BitVec.toInt_sshiftRight, Int.shiftRight_eq_div_pow]
  rfl

theorem flagsOfShiftRight_shiftRightFlags (f : Sreg) (r : Byte) (c : Bool) :
    FlagsOfShiftRight f (shiftRightFlags f r c) r c :=
  ⟨rfl, Byte.getLsbD_seven r, rfl, rfl, rfl, rfl, rfl, rfl⟩

theorem State.oneReg_shiftsRight {s : State} {d : Reg} (op : Byte → Byte) (hd : s.hasReg d = true) :
    ∃ t, finish (s.oneReg d fun v => (op v, shiftRightFlags s.sreg (op v) (v.getLsbD 0))) = .next t ∧
      t.reg d = op (s.reg d) ∧ FlagsOfShiftRight s.sreg t.sreg (t.reg d) ((s.reg d).getLsbD 0) ∧
      RegisterFrame [d] s t := by
  obtain ⟨t, ht, hreg, hsreg, hframe, -⟩ :=
    State.oneReg_writes (fun v => (op v, shiftRightFlags s.sreg (op v) (v.getLsbD 0))) hd
  exact ⟨t, ht, hreg, by rw [hreg, hsreg]; exact flagsOfShiftRight_shiftRightFlags .., hframe⟩

/-- Settles O19: the three halve the byte, and differ in what comes into bit 7. -/
theorem shiftRightForms : Obligations.ShiftRightForms := by
  intro d s hd
  refine ⟨?lsr, ?ror, ?asr⟩
  case lsr =>
    obtain ⟨t, ht, hreg, hrest⟩ := State.oneReg_shiftsRight (fun v => v >>> 1) hd
    exact ⟨t, ht, (congrArg BitVec.toNat hreg).trans (Byte.toNat_ushiftRight_one _), hrest⟩
  case ror =>
    obtain ⟨t, ht, hreg, hrest⟩ := State.oneReg_shiftsRight (fun v => carryIn s.sreg.c <<< 7 ||| v >>> 1) hd
    exact ⟨t, ht, (congrArg BitVec.toNat hreg).trans (Byte.toNat_carryIn_or_ushiftRight _ _), hrest⟩
  case asr =>
    obtain ⟨t, ht, hreg, hrest⟩ := State.oneReg_shiftsRight (fun v => v &&& 0x80#8 ||| v >>> 1) hd
    exact ⟨t, ht, (congrArg BitVec.toInt hreg).trans (Byte.toInt_sign_or_ushiftRight _), hrest⟩

end Sys2Proof.Machine
end

section
/-! One bit written: of a register, of the status and of an I/O location. -/

namespace Sys2Proof.Machine

/-! ### One bit of a byte and one flag of the status -/

/-- The bits of the mask of bit `b`. -/
theorem getLsbD_bitMask (b : Bit) (j : Nat) : (1#8 <<< b.val).getLsbD j = decide (j = b.val) := by
  rw [← BitVec.twoPow_eq, BitVec.getLsbD_twoPow, decide_eq_true b.isLt, Bool.true_and]
  exact decide_eq_decide.2 eq_comm

/-- A bit is set by `or` with its mask and cleared by `and` with the complement of the mask (20_memory.md R94). -/
theorem isWithBit_withBit (v : Byte) (b : Bit) (x : Bool) : IsWithBit v b x (withBit v b x) := by
  intro j
  cases x with
  | true =>
    rw [withBit, if_pos rfl, BitVec.getLsbD_or, getLsbD_bitMask]
    by_cases hj : j = b.val <;> simp [hj]
  | false =>
    have hcleared : (withBit v b false).getLsbD j = (v.getLsbD j && (decide (j < 8) && !decide (j = b.val))) := by
      rw [← getLsbD_bitMask, ← BitVec.getLsbD_not, ← BitVec.getLsbD_and]
      rfl
    rw [hcleared]
    by_cases hj : j = b.val
    · simp [hj]
    · simpa [hj] using BitVec.lt_of_getLsbD

/-- A flag is written at its number and nowhere else (10_state.md R48). -/
theorem Sreg.bit_withBit (f : Sreg) (k j : Bit) (x : Bool) :
    (f.withBit k x).bit j = if j = k then x else f.bit j := by
  fin_cases k <;> fin_cases j <;> rfl

theorem Sreg.oneFlagIs_withBit (f : Sreg) (k : Bit) (x : Bool) : OneFlagIs k x f (f.withBit k x) :=
  ⟨(f.bit_withBit k k x).trans (if_pos rfl), fun j hj => (f.bit_withBit k j x).trans (if_neg hj)⟩

/-! ### BST and BLD -/

/-- Settles O20: BST writes the flag with number 6, BLD the bit of the register. -/
theorem bitTransferForms : Obligations.BitTransferForms := by
  intro d b s hd
  constructor
  · obtain ⟨t, ht, hsreg, hframe, hpc⟩ :=
      State.testOne_writesFlags (fun v => s.sreg.withBit 6 (v.getLsbD b.val)) hd
    exact ⟨t, ht, hsreg ▸ s.sreg.oneFlagIs_withBit 6 _, hframe, hpc⟩
  · obtain ⟨t, ht, hreg, hsreg, hframe, hpc⟩ := State.oneReg_writes (fun v => (withBit v b s.sreg.t, s.sreg)) hd
    exact ⟨t, ht, hreg ▸ isWithBit_withBit _ b _, hsreg, hframe, hpc⟩

/-! ### The flags by name -/

theorem setInstr_canonical (k : Bit) : (setInstr k).canonical = .bset k := by
  fin_cases k <;> rfl

theorem clearInstr_canonical (k : Bit) : (clearInstr k).canonical = .bclr k := by
  fin_cases k <;> rfl

theorem exec_setInstr_eq (k : Bit) (s : State) : exec (setInstr k) s = exec (.bset k) s := by
  rw [← exec_canonical (setInstr k), setInstr_canonical]

theorem exec_clearInstr_eq (k : Bit) (s : State) : exec (clearInstr k) s = exec (.bclr k) s := by
  rw [← exec_canonical (clearInstr k), clearInstr_canonical]

/-- Settles O21: the name of a flag does what BSET of its number does. -/
theorem setFlagForms : Obligations.SetFlagForms := by
  intro k s
  simp only [List.forall_mem_cons, List.not_mem_nil, false_implies, implies_true, and_true, exec_setInstr_eq, and_self]
  exact ⟨_, exec_bset_eq k s, s.sreg.oneFlagIs_withBit k true, rfl, RegisterFrame.refl _, s.advance_pcAdvanced 1⟩

/-- Settles O22: the name of a flag does what BCLR of its number does. -/
theorem clearFlagForms : Obligations.ClearFlagForms := by
  intro k s
  have bclr : exec (.bclr k) s = .next ((s.setSreg (s.sreg.withBit k false)).advance 1) := rfl
  obtain ⟨hsreg, hframe, hpc⟩ := s.writesFlags_setSreg (s.sreg.withBit k false)
  simp only [List.forall_mem_cons, List.not_mem_nil, false_implies, implies_true, and_true, exec_clearInstr_eq, and_self]
  exact ⟨_, bclr, s.sreg.oneFlagIs_withBit k false, hframe, hpc⟩

/-! ### SBI and CBI -/

theorem State.periphBitWrite_eq (s : State) (space : Space) (a : Nat) (b : Bit) (x : Bool) :
    s.periphBitWrite space a b x =
      if platformAnswers s space a then .ok (s.record (.periphBitWrite space a b x))
      else raise (.unmappedAccess space a) := by
  unfold State.periphBitWrite
  rw [State.isAbsent_eq]
  cases platformAnswers s space a <;> rfl

/-- SBI and CBI are one bit write, which differs in the bit (45_bit_and_bit_test.md R366, R367). -/
theorem exec_ioBitWrite_eq (A : BitVec 5) (b : Bit) (s : State) :
    ∀ p ∈ [(Instr.sbi A b, true), (Instr.cbi A b, false)],
      exec p.1 s = finish (s.ioBitWrite A.toNat b p.2 >>= fun u => pure (u.advance 1)) := by
  simp only [List.forall_mem_cons, List.not_mem_nil, false_implies, implies_true, and_true]
  exact ⟨rfl, rfl⟩

/-- Settles O23: the bit is written in the CPU register at the address, or handed to the platform where it answers. -/
theorem ioBitWriteForms : Obligations.IoBitWriteForms := by
  intro A b s p hp
  rw [exec_ioBitWrite_eq A b s p hp, State.ioBitWrite]
  cases cpuIoAt s.cfg A.toNat with
  | some r => exact ⟨_, isWithBit_withBit _ b p.2, rfl⟩
  | none =>
    simp only [State.periphBitWrite_eq]
    split <;> rfl

end Sys2Proof.Machine
end

section
/-! MCU control: NOP, WDR, SLEEP and BREAK move the Program Counter, from the state that their one effect leaves. -/

namespace Sys2Proof.Machine

/-- An effect that keeps the configuration and the Program Counter, followed by the move to the next word. -/
theorem State.advance_goes {s u : State} (hcfg : u.cfg = s.cfg) (hpc : u.pc = s.pc) (n : Nat) :
    ∃ t, finish (.ok (u.advance n)) = .next t ∧ OnlyPc u t ∧ PcAdvanced n s t := by
  have hadv := u.advance_pcAdvanced n
  rw [PcAdvanced, hcfg, hpc] at hadv
  exact ⟨_, rfl, u.setPc_onlyPc _, hadv⟩

/-- The effect of BREAK: the Stopped state, or none where the debug system is off (46_mcu_control.md R410). -/
def State.afterBreak (s : State) : State := if s.cfg.ocdEnabled then s.setMode .stopped else s

@[simp] theorem State.afterBreak_cfg (s : State) : s.afterBreak.cfg = s.cfg := by
  unfold State.afterBreak
  split <;> rfl

@[simp] theorem State.afterBreak_pc (s : State) : s.afterBreak.pc = s.pc := by
  unfold State.afterBreak
  split <;> rfl

theorem exec_break_eq (s : State) : exec .break_ s = finish (.ok (s.afterBreak.advance 1)) := by
  change execBreak s = _
  unfold execBreak State.afterBreak
  split <;> rfl

/-- SLEEP may set the mode before it moves the Program Counter (46_mcu_control.md R412). -/
theorem exec_sleep_eq (s : State) : exec .sleep s = finish (.ok ((s.setMode .sleeping).advance 1)) := rfl

/-- Settles O47: each is its effect, which leaves the Program Counter, and then the move to the next word. -/
theorem controlForms : Obligations.ControlForms := by
  intro s
  have nop := State.advance_goes (s := s) rfl rfl 1
  have wdr := State.advance_goes (s := s) (u := s.record .watchdogRestart) rfl rfl 1
  have sleep := State.advance_goes (s.setMode_cfg .sleeping) (s.setMode_pc .sleeping) 1
  have stop := State.advance_goes s.afterBreak_cfg s.afterBreak_pc 1
  rw [← exec_sleep_eq] at sleep
  rw [← exec_break_eq] at stop
  exact ⟨nop, wdr, sleep, stop⟩

end Sys2Proof.Machine
end

section
/-! Interrupt entry: what it pushes and what it leaves, and that RETI comes back from it. -/

namespace Sys2Proof.Machine

/-! ### What the stack and the status may change -/

theorem KeptAcrossStack.trans {s t u : State} (h : KeptAcrossStack s t) (k : KeptAcrossStack t u) :
    KeptAcrossStack s u := by
  obtain ⟨hregs, ⟨hx, hy, hz, hd, he⟩, hflash, hcfg⟩ := h
  obtain ⟨kregs, ⟨kx, ky, kz, kd, ke⟩, kflash, kcfg⟩ := k
  exact ⟨fun i hi => (kregs i hi).trans (hregs i hi),
    ⟨kx.trans hx, ky.trans hy, kz.trans hz, kd.trans hd, ke.trans he⟩, fun b => (kflash b).trans (hflash b),
    kcfg.trans hcfg⟩

theorem OnlyStack.keptAcrossStack {s t : State} (h : OnlyStack s t) : KeptAcrossStack s t := by
  obtain ⟨_, _, rfl⟩ := h
  exact .refl s

theorem OnlyStack.raiseSp (s : State) (n : Nat) : OnlyStack s (s.raiseSp n) := ⟨_, _, rfl⟩

/-- The last three updates of interrupt entry and of the return from it (60_exceptions.md R425, 42_change_of_flow.md R231). -/
theorem KeptAcrossStack.setSreg_setPc_record (s : State) (f : Sreg) (x : Int) (e : Event) :
    KeptAcrossStack s (((s.setSreg f).setPc x).record e) :=
  .refl s

/-! ### The entry -/

theorem State.nextRequest_trace (s : State) : s.nextRequest.2.trace = s.env.trace := by
  unfold State.nextRequest
  split <;> rfl

/-- The hardware clears I on the versions that do so, and nothing else (60_exceptions.md R427). -/
theorem State.hardwareIFlag_false (s : State) :
    s.hardwareIFlag false = s.setSreg { s.sreg with i := !servesIFlag s.cfg && s.sreg.i } := by
  unfold State.hardwareIFlag
  rw [handlesIFlag_eq]
  cases servesIFlag s.cfg <;> rfl

/-- The state whose Program Counter interrupt entry pushes: awake, the latch clear, the request used up
(60_exceptions.md R424, R425). -/
def State.entering (s : State) : State := ((s.setIrqInhibit false).setEnv s.nextRequest.2).setMode .running

/-- What interrupt entry makes of the state its push leaves (60_exceptions.md R425, R427). -/
def State.entered (s : State) (v : PcWord) : State :=
  ((s.setSreg { s.sreg with i := !servesIFlag s.cfg && s.sreg.i }).setPc v.toNat).record (.acknowledge v)

theorem Pushed.keptAcrossStack_entered {b : Nat → Byte} {n : Nat} {s u : State} (h : Pushed b n s.entering u)
    (v : PcWord) : KeptAcrossStack s (u.entered v) :=
  have entering : KeptAcrossStack s s.entering := .refl s
  (entering.trans h.frame.keptAcrossStack).trans (.setSreg_setPc_record u _ _ _)

/-- A step that finds a request and room on the stack: the push of the Program Counter, and then the entry. -/
theorem step_of_request {s : State} {v : PcWord} (hcfg : accepted s.cfg = true) (hmode : s.mode ≠ .stopped)
    (hlatch : s.irqInhibit = false) (hi : s.sreg.i = true) (hreq : s.nextRequest.1 = some v)
    (room : StackRoom s (raBytes s.cfg)) :
    ∃ u, step s = .next (u.entered v) ∧
      Pushed (returnByte s.cfg s.pc.toNat) (raBytes s.cfg) s.entering u := by
  obtain ⟨u, hpush, hpushed⟩ := State.pushReturn_pushed (s := s.entering) room s.pc.toNat
  have hentry : ((s.setIrqInhibit false).setEnv s.nextRequest.2).interruptEntry v = .ok (u.entered v) :=
    State.interruptEntry_ok.2 ⟨u, hpush, by rw [State.hardwareIFlag_false]; rfl⟩
  refine ⟨u, ?_, hpushed⟩
  unfold step
  rw [if_pos hcfg, State.boundary_of_request hmode hlatch hi hreq]
  exact finish_next.2 hentry

/-- Settles O53: the entry is the push of the Program Counter, which changes the stack alone, and then the jump to the
vector; the vector is one the controller can answer. -/
theorem interruptEntry : Obligations.InterruptEntry := by
  intro s v hcfg hmode hlatch hi hreq room
  obtain ⟨u, hstep, hpushed⟩ := step_of_request hcfg hmode hlatch hi hreq room
  have hreturn : ReturnPushed s.pc.toNat s (u.entered v) := ⟨hpushed.byte, hpushed.other, hpushed.sp⟩
  have hflag : OneFlagIs 7 (!servesIFlag s.cfg) s.sreg { s.sreg with i := !servesIFlag s.cfg && s.sreg.i } := by
    rw [hi, Bool.and_true]
    exact s.sreg.oneFlagIs_i _
  have hkept := hpushed.keptAcrossStack_entered v
  obtain ⟨_, _, rfl⟩ := hpushed.frame
  exact ⟨State.nextRequest_le hreq, _, hstep, hreturn, rfl, hkept, rfl, rfl, hflag,
    s.nextRequest_trace ▸ rfl⟩

/-! ### The entry and the return from it -/

/-- What RETI makes of the state its pop leaves, `a` being the address popped (42_change_of_flow.md R231). -/
def State.returned (s : State) (a : Nat) : State :=
  ((s.setSreg { s.sreg with i := servesIFlag s.cfg || s.sreg.i }).setPc a).record .returnFromInterrupt

theorem StackHolds.exec_reti_returned {s : State} {b : Nat → Byte} (h : StackHolds s b) :
    exec .reti s = .next ((s.raiseSp (raBytes s.cfg)).returned (returnAddress s.cfg b)) := by
  rw [h.exec_reti, State.hardwareIFlag_true]
  rfl

theorem State.keptAcrossStack_returned (s : State) (n a : Nat) : KeptAcrossStack s ((s.raiseSp n).returned a) :=
  (OnlyStack.raiseSp s n).keptAcrossStack.trans (.setSreg_setPc_record _ _ _ _)

theorem Sreg.i_restored {f : Sreg} (h : f.i = true) (serves : Bool) :
    { f with i := serves || (!serves && f.i) } = f := by
  rw [h, Bool.and_true, Bool.or_not_self, ← h]

/-- The address of the Program Counter, which is inside its width, is the Program Counter (10_state.md R47). -/
theorem PcAdvanced.pc_eq {s t : State} (h : PcAdvanced 0 s t) (hpc : s.pc.toNat < 2 ^ s.cfg.pcBits) : t.pc = s.pc := by
  rw [h, Nat.add_zero, Nat.mod_eq_of_lt hpc, BitVec.ofNat_toNat, BitVec.setWidth_eq]

/-- Settles O54: the return pops what the entry pushed, and sets I where the entry cleared it. -/
theorem interruptRoundTrip : Obligations.InterruptRoundTrip := by
  rintro s v ⟨hcfg, hpc, -⟩ hmode hlatch hi hreq room
  obtain ⟨hpcBits, -⟩ := accepted_widths hcfg
  obtain ⟨u, hstep, hpushed⟩ := step_of_request hcfg hmode hlatch hi hreq room
  have hholds : StackHolds (u.entered v) fun k => returnByte s.cfg s.pc.toNat (raBytes s.cfg - k) :=
    hpushed.stackHolds (s := s.entering) room v.toNat
  have hreti := hholds.exec_reti_returned
  rw [show (u.entered v).cfg = s.cfg from hpushed.frame.cfg, returnAddress_returnByte hpcBits] at hreti
  have hsp := hpushed.raiseSp_sp room v.toNat
  have hkept (n a : Nat) : KeptAcrossStack s (((u.entered v).raiseSp n).returned a) :=
    (hpushed.keptAcrossStack_entered v).trans (State.keptAcrossStack_returned _ n a)
  obtain ⟨_, _, rfl⟩ := hpushed.frame
  exact ⟨_, _, hstep, hreti, PcAdvanced.pc_eq (.of_pcIs_mod rfl) hpc, hsp, Sreg.i_restored hi _, rfl, hkept _ _⟩

end Sys2Proof.Machine
end

section
/-! The steps that perform no instruction: asleep, stopped, with a fetch that stops, or on a configuration the rules
refuse. -/

namespace Sys2Proof.Machine

/-! ### Asleep and stopped -/

theorem step_of_idle {s t : State} (hcfg : accepted s.cfg = true) (h : s.boundary = .idle t) : step s = .next t := by
  simp [step, hcfg, h]

theorem State.boundary_of_stopped {s : State} (h : s.mode = .stopped) : s.boundary = .idle s := by
  simp [State.boundary, h]

theorem State.pastCheck_of_sleeping {s : State} (h : s.mode = .sleeping) : s.pastCheck = .idle s := by
  simp [State.pastCheck, h]

/-- Asleep, with the latch set or I clear, the controller is not asked and the machine waits (60_exceptions.md R424). -/
theorem State.boundary_of_sleeping_unasked {s : State} (hmode : s.mode = .sleeping)
    (h : s.irqInhibit = true ∨ s.sreg.i = false) : s.boundary = .idle (s.setIrqInhibit false) := by
  have hcond : (s.irqInhibit || !s.sreg.i) = true := by simpa using h
  simp [State.boundary, hmode, hcond, State.pastCheck_of_sleeping]

/-- Asleep, a controller that is asked and has no request leaves the machine waiting (60_exceptions.md R424, R428). -/
theorem State.boundary_of_sleeping_no_request {s : State} (hmode : s.mode = .sleeping) (hlatch : s.irqInhibit = false)
    (hi : s.sreg.i = true) (hreq : s.nextRequest.1 = none) :
    s.boundary = .idle ((s.setIrqInhibit false).setEnv s.nextRequest.2) := by
  have hpair : s.nextRequest = (none, s.nextRequest.2) := Prod.ext hreq rfl
  unfold State.boundary
  rw [hpair]
  simp [hmode, hlatch, hi, State.pastCheck_of_sleeping]

/-- Settles O57: the boundary of a machine that is stopped, or asleep without a request, hands on a state of the same mode,
and the step stays there. -/
theorem sleepingAndStopped : Obligations.SleepingAndStopped := by
  intro s hcfg
  have unasked (hmode : s.mode = .sleeping) (h : s.irqInhibit = true ∨ s.sreg.i = false) :
      step s = .next (s.setIrqInhibit false) :=
    step_of_idle hcfg (State.boundary_of_sleeping_unasked hmode h)
  have noRequest (hmode : s.mode = .sleeping) (hlatch : s.irqInhibit = false) (hi : s.sreg.i = true)
      (hreq : s.nextRequest.1 = none) : step s = .next ((s.setIrqInhibit false).setEnv s.nextRequest.2) :=
    step_of_idle hcfg (State.boundary_of_sleeping_no_request hmode hlatch hi hreq)
  refine ⟨fun hmode => step_of_idle hcfg (State.boundary_of_stopped hmode), unasked, noRequest,
    fun t hmode hstep hrun => ?_⟩
  have notAsleep {u : State} (hu : step s = .next u) (hsleeps : u.mode = .sleeping) : False := by
    cases hu.symm.trans hstep
    cases hsleeps.symm.trans hrun
  have hlatch : s.irqInhibit = false := eq_false_of_ne_true fun h => notAsleep (unasked hmode (.inl h)) hmode
  have hi : s.sreg.i = true := eq_true_of_ne_false fun h => notAsleep (unasked hmode (.inr h)) hmode
  exact ⟨hlatch, hi, Option.isSome_iff_ne_none.2 fun h => notAsleep (noRequest hmode hlatch hi h) hmode⟩

/-! ### A fetch that stops -/

theorem step_of_fetch_raise {s t : State} {f : Fault} (hcfg : accepted s.cfg = true)
    (hbound : s.boundary = .instruction t) (hfetch : t.fetch = raise f) : step s = .fault f := by
  simp [step, hcfg, hbound, hfetch, raise, finish]

theorem State.progWord_of_le {s : State} {a : Nat} (h : a ≤ s.cfg.flashEnd) : s.progWord a = .ok (s.flashWord a) :=
  State.progWord_ok.2 ⟨h, rfl⟩

theorem State.progWord_of_beyond {s : State} {a : Nat} (h : s.cfg.flashEnd < a) :
    s.progWord a = raise (.fetchOutOfRange a) :=
  if_pos h

theorem State.fetch_of_pc_beyond {s : State} (h : s.cfg.flashEnd < s.pc.toNat) :
    s.fetch = raise (.fetchOutOfRange s.pc.toNat) := by
  rw [State.fetch, State.progWord_of_beyond h]
  rfl

theorem State.fetch_of_illegal {s : State} {e : DecodeReject} (hpc : s.pc.toNat ≤ s.cfg.flashEnd)
    (hdec : decodeWords s.cfg.core (s.flashWord s.pc.toNat) 0#16 = .error e) :
    s.fetch = raise (.illegalInstruction s.pc.toNat (s.flashWord s.pc.toNat)) := by
  rw [State.fetch, State.progWord_of_le hpc, Res.pure_bind, State.decoded, hdec]
  rfl

/-- Once the first word has decoded, the fetch is the availability test and the second word. -/
theorem State.fetch_of_decodeWords {s : State} {i : Instr} (hpc : s.pc.toNat ≤ s.cfg.flashEnd)
    (hdec : decodeWords s.cfg.core (s.flashWord s.pc.toNat) 0#16 = .ok i) :
    s.fetch = (do
      s.requireAvailable i
      let w1 ← s.secondWord i
      s.decoded (s.flashWord s.pc.toNat) w1) := by
  rw [State.fetch, State.progWord_of_le hpc, Res.pure_bind, State.decoded_ok.2 hdec, Res.pure_bind]

theorem State.fetch_of_unavailable {s : State} {i : Instr} (hpc : s.pc.toNat ≤ s.cfg.flashEnd)
    (hdec : decodeWords s.cfg.core (s.flashWord s.pc.toNat) 0#16 = .ok i)
    (hav : available s.cfg i.mnemonic = false) :
    s.fetch = raise (.unavailableInstruction s.pc.toNat i.mnemonic) := by
  rw [State.fetch_of_decodeWords hpc hdec, State.requireAvailable, hav]
  rfl

theorem State.fetch_of_second_beyond {s : State} {i : Instr} (hpc : s.pc.toNat = s.cfg.flashEnd)
    (hdec : decodeWords s.cfg.core (s.flashWord s.pc.toNat) 0#16 = .ok i)
    (hav : available s.cfg i.mnemonic = true) (two : i.words = 2) :
    s.fetch = raise (.fetchOutOfRange (s.pc.toNat + 1)) := by
  have hbeyond : s.cfg.flashEnd < s.pc.toNat + 1 := by omega
  rw [State.fetch_of_decodeWords hpc.le hdec, State.requireAvailable_ok (u := ()).2 hav, Res.pure_bind, State.secondWord,
    if_pos two, State.progWord_of_beyond hbeyond]
  rfl

/-- Settles O49: with I clear the step is the fetch, and each stop is that of the fetch. -/
theorem fetchStops : Obligations.FetchStops := by
  intro s hcfg hmode hi
  have stops {f : Fault} (h : s.fetch = raise f) : step s = .fault f :=
    step_of_fetch_raise hcfg (State.boundary_of_running_unasked hmode (.inr hi)) ((s.fetch_setIrqInhibit false).trans h)
  exact ⟨fun hpc => stops (State.fetch_of_pc_beyond hpc), fun hpc _ hdec => stops (State.fetch_of_illegal hpc hdec),
    fun hpc _ hdec => ⟨fun hav => stops (State.fetch_of_unavailable hpc hdec hav),
      fun hav two hend => stops (State.fetch_of_second_beyond hend hdec hav two)⟩⟩

/-! ### A refused configuration -/

theorem step_of_not_accepted {s : State} (h : ¬ accepted s.cfg = true) : step s = .refused .configurationRefused :=
  if_neg h

/-- The three conditions of a configuration the rules do not refuse (60_exceptions.md R420). -/
theorem notRefused_iff (cfg : Config) :
    notRefused cfg = true ↔
      ((available cfg .eijmp = true ∨ available cfg .eicall = true) → cfg.hasEind = true ∧ 16 < cfg.pcBits) ∧
      (cfg.dsBits = 8 →
        ¬ (cfg.hasRampX = true ∨ cfg.hasRampY = true ∨ cfg.hasRampZ = true ∨ cfg.hasRampD = true)) ∧
      cfg.nregs = if cfg.core = .avrRc then 16 else 32 := by
  simp only [notRefused, Bool.and_eq_true, Bool.or_eq_true, Bool.not_eq_true', Bool.or_eq_false_iff, decide_eq_true_eq,
    and_assoc, not_or, Bool.not_eq_true, imp_iff_not_or, ne_eq]

theorem accepted_notRefused {cfg : Config} (h : accepted cfg = true) : notRefused cfg = true := by
  simp only [accepted, Bool.and_eq_true, and_assoc] at h
  obtain ⟨hnot, -⟩ := h
  exact hnot

/-- Settles O60: each of the three denies a condition of an accepted configuration. -/
theorem refusedConfigurations : Obligations.RefusedConfigurations := by
  intro s h
  refine step_of_not_accepted fun hcfg => ?_
  obtain ⟨hindirect, hramp, hnregs⟩ := (notRefused_iff _).1 (accepted_notRefused hcfg)
  obtain ⟨hav, hbad⟩ | ⟨hbits, hpresent⟩ | hcount := h
  · obtain ⟨heind, hwide⟩ := hindirect hav
    obtain hmissing | hnarrow := hbad
    · exact absurd heind (by simp [hmissing])
    · omega
  · exact hramp hbits hpresent
  · exact hcount hnregs

end Sys2Proof.Machine
end

section
/-! The state after reset: the values the configuration gives, and the invariant. -/

namespace Sys2Proof.Machine

/-- The reset values of PC and SP fit the widths of the two registers. -/
theorem State.resetOf_pc_sp {cfg : Config} (h : accepted cfg = true) :
    (State.resetOf cfg).pc.toNat = cfg.resetPc ∧ (State.resetOf cfg).sp.toNat = cfg.resetSp := by
  obtain ⟨hpc, hsp⟩ := accepted_reset h
  obtain ⟨hpcBits, hspBits⟩ := accepted_widths h
  exact ⟨Nat.mod_eq_of_lt (hpc.trans_le (Nat.pow_le_pow_right two_pos hpcBits)),
    Nat.mod_eq_of_lt (hsp.trans_le (Nat.pow_le_pow_right two_pos hspBits))⟩

/-- Settles O50: the reset values of an accepted configuration are inside their widths. -/
theorem resetMeetsInvariant : Obligations.ResetMeetsInvariant := by
  refine ⟨fun cfg hcfg => ?_, State.resetOf_inv (by decide)⟩
  obtain ⟨hpc, hsp⟩ := State.resetOf_pc_sp hcfg
  exact ⟨State.resetOf_inv hcfg, hpc, Sreg.toByte_ofByte cfg.resetSreg, hsp, rfl, rfl, rfl, rfl, rfl, rfl, rfl,
    fun _ => rfl⟩

end Sys2Proof.Machine
end
